-- ==== Sys2Proof/Word.lean ====
section
/-! DEFINITION. The widths that cross the ports of the UP16: bytes, and the two- and four-byte fields of chapter 11. -/

namespace Sys2Proof

/-- One byte of a frame or of a forwarding record. -/
abbrev Byte := BitVec 8

/-- A two-byte field (R177). -/
abbrev Half := BitVec 16

/-- A four-byte field (R177); the time base's seconds are one (R148). -/
abbrev Word := BitVec 32

end Sys2Proof
end

