-- ==== Sys2Proof/Syntax.lean ====
section
/-! DEFINITION. The commands the UP16 takes: one constructor of `Instr` per row of spec/opcode_table.json, with the
row's operands. Operands of control commands have the width their field has in the payload (R179), so that the
ranges are judged by the commands' own rules; a forwarding record is its eight bytes (R178). -/

namespace Sys2Proof

/-- U0 to U15 (section 5.1 of the scope chapter). -/
abbrev Uplink := Fin 16
/-- C0 to C7. -/
abbrev Conduit := Fin 8
/-- G0 to G1023. -/
abbrev Group := Fin 1024
/-- M0 to M7. -/
abbrev Slot := Fin 8
/-- bucket 0 to bucket 63. -/
abbrev BucketNo := Fin 64
/-- L0 to L3. -/
abbrev Lane := Fin 4

/-- A forwarding record: eight bytes, byte 0 the kind code, byte 7 the check byte (section 11.2). -/
structure Record where
  b0 : Byte
  b1 : Byte
  b2 : Byte
  b3 : Byte
  b4 : Byte
  b5 : Byte
  b6 : Byte
  b7 : Byte
deriving DecidableEq, Repr

/-- The payload of SET-UPLINK, in its order (R179): the uplink and its eleven settings. -/
structure UplinkFields where
  uplink : Byte
  conduit : Byte
  lossQualify : Half
  lightQualify : Half
  holdOff : Half
  waitToRestore : Half
  interval : Byte
  phase : Byte
  multiplier : Byte
  setThreshold : Byte
  clearThreshold : Byte
  policy : Byte
deriving DecidableEq, Repr

/-- The payload of WRITE-PLAN: a plan record as section 11.4 lays it out. The member count is the length of
`members`, since a payload whose length disagrees with its count is MALFORMED and is no command (R68, R163). -/
structure PlanFields where
  group : Half
  fold : Byte
  revert : Byte
  fallback : Half
  emptyAction : Byte
  members : List (Byte × Byte)
deriving DecidableEq, Repr

/-- What REBALANCE names: a group number 0000h to 7FFFh, or ALL (R179). -/
inductive RebalanceTarget where
  | group (number : BitVec 15)
  | all
deriving DecidableEq, Repr

/-- A command of section 10.4: a frame that passed the type and payload checks of R163. -/
inductive Command where
  | identify
  | getStatus
  | setTime (seconds : Word)
  | setUplink (fields : UplinkFields)
  | getUplink (uplink : Byte)
  | setAdmin (uplink mode : Byte)
  | forceRestore (uplink : Byte)
  | clearLatch (uplink : Byte)
  | setConduit (conduit tripCount : Byte)
  | writePlan (fields : PlanFields)
  | clearPlan (group : Half)
  | copyActive
  | readPlan (group : Half) (bank : Byte)
  | swap
  | readGroup (group : Half)
  | rebalance (target : RebalanceTarget)
  | setLane (lane enabled pauseMark resumeMark : Byte)
  | setFwdlink (silence : Byte)
  | setAlert (trigger : Byte) (linger : Half) (urgent : Byte)
  | fetchEvents (count : Byte)
  | reset
deriving DecidableEq, Repr

/-- The rows of spec/opcode_table.json. The first twenty, and the last three, are events at the part's pins, timers,
engines and ports; the rest are control commands, each with the tag byte of the frame that brings it (R166). -/
inductive Instr where
  | losAssert (uplink : Uplink)
  | losDeassert (uplink : Uplink)
  | lossQualifyExpiry (uplink : Uplink)
  | lightQualifyExpiry (uplink : Uplink)
  | holdOffExpiry (uplink : Uplink)
  | waitToRestoreExpiry (uplink : Uplink)
  | probeEmission (uplink : Uplink)
  | continuityDeadlineExpiry (uplink : Uplink)
  | probeInReceived (record : Record)
  | syncReceived (record : Record)
  | lookupReqReceived (record : Record)
  /-- A faulty record: its eight bytes, or `none` for one cut short (R137, R138). -/
  | faultyRecordReceived (record : Option Record)
  | silenceExpiry
  | serviceBegin
  | recordTime
  | passBegin
  | passComplete
  | lingerExpiry
  /-- The bytes of one frame: `body` is what the length counts, type to end of payload; `check` the check field. -/
  | frameReceived (body : List Byte) (check : Half)
  | replySent
  | identify (tag : Byte)
  | getStatus (tag : Byte)
  | setTime (tag : Byte) (seconds : Word)
  | setUplink (tag : Byte) (fields : UplinkFields)
  | getUplink (tag : Byte) (uplink : Byte)
  | setAdmin (tag : Byte) (uplink mode : Byte)
  | forceRestore (tag : Byte) (uplink : Byte)
  | clearLatch (tag : Byte) (uplink : Byte)
  | setConduit (tag : Byte) (conduit tripCount : Byte)
  | writePlan (tag : Byte) (fields : PlanFields)
  | clearPlan (tag : Byte) (group : Half)
  | copyActive (tag : Byte)
  | readPlan (tag : Byte) (group : Half) (bank : Byte)
  | swap (tag : Byte)
  | readGroup (tag : Byte) (group : Half)
  | rebalance (tag : Byte) (target : RebalanceTarget)
  | setLane (tag : Byte) (lane enabled pauseMark resumeMark : Byte)
  | setFwdlink (tag : Byte) (silence : Byte)
  | setAlert (tag : Byte) (trigger : Byte) (linger : Half) (urgent : Byte)
  | fetchEvents (tag : Byte) (count : Byte)
  | reset (tag : Byte)
  | resetInputAssert
  | resetInputRelease
  | controlByteTaken (byte : Byte)
deriving DecidableEq, Repr

end Sys2Proof
end

