-- ==== Sys2Proof/Decode.lean ====
section
/-! DEFINITION. From wire to command: `decodeTableWord` (the table gives no row any bits), the classing and reading
of forwarding records (R138, R178), the parsing of control frames into commands (R163, R179), and beside them the
writing of the same layouts. -/

namespace Sys2Proof

/-- No row of spec/opcode_table.json gives bits, so no word spells a command. -/
def decodeTableWord (_nbits _w : Nat) : Option Instr := none

/-! ### Byte order (R177): most significant byte first -/

/-- The low eight bits of a number. -/
def byte (n : Nat) : Byte := BitVec.ofNat 8 n

/-- A two-byte field. -/
def be16 (n : Nat) : List Byte := [byte (n / 256), byte n]

/-- A four-byte field. -/
def be32 (n : Nat) : List Byte := [byte (n / 16777216), byte (n / 65536), byte (n / 256), byte n]

/-- The two bytes of a field, most significant first. -/
def half (hi lo : Byte) : Half := hi ++ lo

/-- The four bytes of a field, most significant first. -/
def word (b3 b2 b1 b0 : Byte) : Word := (b3 ++ b2 : BitVec 16) ++ (b1 ++ b0 : BitVec 16)

/-- The bytes of a two-byte field as sent. -/
def Half.bytes (h : Half) : List Byte := [h.extractLsb' 8 8, h.extractLsb' 0 8]

/-- The bytes of a four-byte field as sent. -/
def Word.bytes (w : Word) : List Byte :=
  [w.extractLsb' 24 8, w.extractLsb' 16 8, w.extractLsb' 8 8, w.extractLsb' 0 8]

/-! ### Forwarding records (section 11.2) -/

/-- The kind codes of section 11.2. -/
def Code.sync : Byte := 0x5A#8
def Code.lookupReq : Byte := 0x11#8
def Code.lookupAns : Byte := 0x12#8
def Code.probeIn : Byte := 0x21#8
def Code.probeOut : Byte := 0x22#8
def Code.pause : Byte := 0x31#8
def Code.resume : Byte := 0x32#8

/-- The sum of a record's eight bytes, modulo 256 (R138). -/
def Record.sum (r : Record) : Byte := r.b0 + r.b1 + r.b2 + r.b3 + r.b4 + r.b5 + r.b6 + r.b7

/-- Eight bytes whose last makes the sum 0 modulo 256 (section 11.2). -/
def Record.sealed (b0 b1 b2 b3 b4 b5 b6 : Byte) : Record :=
  { b0, b1, b2, b3, b4, b5, b6, b7 := -(b0 + b1 + b2 + b3 + b4 + b5 + b6) }

/-- The three kinds that are valid inward (section 8.1). -/
inductive InKind where
  | sync
  | lookupReq
  | probeIn
deriving DecidableEq, Repr

/-- The code of an inward kind, as FWD-LINK-UP's detail carries it (section 11.4). -/
def InKind.code : InKind → Byte
  | .sync => Code.sync
  | .lookupReq => Code.lookupReq
  | .probeIn => Code.probeIn

/-- The cases of R138, in its order. -/
inductive RecordFault where
  | badSum
  | unknownKind
  | outwardOnly
deriving DecidableEq, Repr

/-- What R138 and R139 make of eight bytes. -/
inductive RecordClass where
  | valid (kind : InKind)
  | faulty (why : RecordFault)
deriving DecidableEq, Repr

/-- R138: the sum, then the kind code, then the direction. -/
def Record.classify (r : Record) : RecordClass :=
  if r.sum ≠ 0#8 then .faulty .badSum
  else if r.b0 = Code.sync then .valid .sync
  else if r.b0 = Code.lookupReq then .valid .lookupReq
  else if r.b0 = Code.probeIn then .valid .probeIn
  else if r.b0 = Code.lookupAns ∨ r.b0 = Code.probeOut ∨ r.b0 = Code.pause ∨ r.b0 = Code.resume then
    .faulty .outwardOnly
  else .faulty .unknownKind

/-- LOOKUP-REQ byte 1 bits 7-6 (R178). -/
def Record.lane (r : Record) : Lane := (r.b1.extractLsb' 6 2).toFin

/-- LOOKUP-REQ's 12-bit group field: byte 1 bits 3-0 over byte 2 (R178). -/
def Record.groupField (r : Record) : BitVec 12 := r.b1.extractLsb' 0 4 ++ r.b2

/-- LOOKUP-REQ's tag: bytes 3 and 4 (R178). -/
def Record.reqTag (r : Record) : Half := half r.b3 r.b4

/-- LOOKUP-REQ's flow hash: bytes 5 and 6 (R178). -/
def Record.hash (r : Record) : Half := half r.b5 r.b6

/-- PROBE-IN's uplink of arrival: byte 1 bits 3-0 (R178). -/
def Record.probeUplink (r : Record) : Uplink := (r.b1.extractLsb' 0 4).toFin

/-- PROBE-IN's sequence: byte 2 (R178). -/
def Record.probeSeq (r : Record) : Byte := r.b2

/-- PROBE-IN's RDI flag: bit 0 of byte 3 (R178). -/
def Record.probeRdi (r : Record) : Bool := r.b3.getLsbD 0

/-- The body check of R178: byte 4 complements byte 2 and byte 5 complements byte 3. -/
def Record.bodyCheck (r : Record) : Bool := r.b4 = ~~~r.b2 ∧ r.b5 = ~~~r.b3

/-! ### Control frames (section 11.3) -/

/-- The start byte of a frame. -/
def startByte : Byte := 0xC3#8

/-- The sum of bytes, modulo 65,536. -/
def byteSum (bs : List Byte) : Half := bs.foldl (fun a b => a + b.zeroExtend 16) 0#16

/-- The check field over the bytes from the length to the end of the payload (section 11.3). -/
def checkOf (bs : List Byte) : Half := -(byteSum bs)

/-- The length field and body of a frame, as the check covers them. -/
def lengthAndBody (body : List Byte) : List Byte := be16 body.length ++ body

/-- All the bytes of a frame on the line: start byte, length, body, check (section 10.1). -/
def frameBytes (body : List Byte) (check : Half) : List Byte :=
  startByte :: (lengthAndBody body ++ check.bytes)

/-- The type code of a command (R179). -/
def Command.typeCode : Command → Byte
  | .identify => 0x01#8
  | .getStatus => 0x02#8
  | .setTime _ => 0x03#8
  | .setUplink _ => 0x10#8
  | .getUplink _ => 0x11#8
  | .setAdmin _ _ => 0x12#8
  | .forceRestore _ => 0x13#8
  | .clearLatch _ => 0x14#8
  | .setConduit _ _ => 0x15#8
  | .writePlan _ => 0x20#8
  | .clearPlan _ => 0x21#8
  | .copyActive => 0x22#8
  | .readPlan _ _ => 0x23#8
  | .swap => 0x24#8
  | .readGroup _ => 0x25#8
  | .rebalance _ => 0x26#8
  | .setLane _ _ _ _ => 0x30#8
  | .setFwdlink _ => 0x31#8
  | .setAlert _ _ _ => 0x32#8
  | .fetchEvents _ => 0x33#8
  | .reset => 0x3F#8

/-- The selector of REBALANCE as sent: a group number, or FFFFh for ALL (R179). -/
def RebalanceTarget.selector : RebalanceTarget → Half
  | .group n => n.zeroExtend 16
  | .all => 0xFFFF#16

/-- The payload of a command (R179). -/
def Command.payload : Command → List Byte
  | .identify => []
  | .getStatus => []
  | .setTime sec => Word.bytes sec
  | .setUplink f =>
    [f.uplink, f.conduit] ++ Half.bytes f.lossQualify ++ Half.bytes f.lightQualify ++ Half.bytes f.holdOff
      ++ Half.bytes f.waitToRestore
      ++ [f.interval, f.phase, f.multiplier, f.setThreshold, f.clearThreshold, f.policy]
  | .getUplink u => [u]
  | .setAdmin u m => [u, m]
  | .forceRestore u => [u]
  | .clearLatch u => [u]
  | .setConduit c t => [c, t]
  | .writePlan f =>
    Half.bytes f.group ++ [byte f.members.length, f.fold, f.revert] ++ Half.bytes f.fallback ++ [f.emptyAction]
      ++ f.members.flatMap fun m => [m.1, m.2]
  | .clearPlan g => Half.bytes g
  | .copyActive => []
  | .readPlan g b => Half.bytes g ++ [b]
  | .swap => []
  | .readGroup g => Half.bytes g
  | .rebalance t => Half.bytes t.selector
  | .setLane l e p r => [l, e, p, r]
  | .setFwdlink ms => [ms]
  | .setAlert t l u => [t] ++ Half.bytes l ++ [u]
  | .fetchEvents n => [n]
  | .reset => []

/-- The body of the frame that brings a command under a tag: type, tag, payload (section 10.1). -/
def Command.frameBody (c : Command) (tag : Byte) : List Byte := c.typeCode :: tag :: c.payload

/-- What R163's two checks make of a frame received whole. -/
inductive Parsed where
  | command (c : Command)
  | unknown
  | malformed
deriving DecidableEq, Repr

/-- The members of a plan record, two bytes each, slot M0 first (section 11.4). -/
def memberPairs : List Byte → List (Byte × Byte)
  | u :: w :: rest => (u, w) :: memberPairs rest
  | _ => []

/-- R163's payload check for WRITE-PLAN: the length must agree with the member count it carries. -/
def parsePlan : List Byte → Parsed
  | g1 :: g0 :: count :: fold :: revert :: f1 :: f0 :: action :: rest =>
    if rest.length = 2 * count.toNat then
      .command (.writePlan { group := half g1 g0, fold, revert, fallback := half f1 f0, emptyAction := action,
                             members := memberPairs rest })
    else .malformed
  | _ => .malformed

/-- The selector of REBALANCE: a group number, ALL, or neither (R113, R179). -/
def parseSelector (s : Half) : Parsed :=
  if s.msb = false then .command (.rebalance (.group (s.extractLsb' 0 15)))
  else if s = 0xFFFF#16 then .command (.rebalance .all)
  else .malformed

/-- R163: the type check, then the payload check, by the table of R179. -/
def parseCommand (type : Byte) (payload : List Byte) : Parsed :=
  match type.toNat with
  | 0x01 => match payload with | [] => .command .identify | _ => .malformed
  | 0x02 => match payload with | [] => .command .getStatus | _ => .malformed
  | 0x03 => match payload with | [a, b, c, d] => .command (.setTime (word a b c d)) | _ => .malformed
  | 0x10 =>
    match payload with
    | [u, c, q1, q0, l1, l0, h1, h0, w1, w0, i, p, m, st, ct, po] =>
      .command (.setUplink { uplink := u, conduit := c, lossQualify := half q1 q0, lightQualify := half l1 l0,
                             holdOff := half h1 h0, waitToRestore := half w1 w0, interval := i, phase := p,
                             multiplier := m, setThreshold := st, clearThreshold := ct, policy := po })
    | _ => .malformed
  | 0x11 => match payload with | [u] => .command (.getUplink u) | _ => .malformed
  | 0x12 => match payload with | [u, m] => .command (.setAdmin u m) | _ => .malformed
  | 0x13 => match payload with | [u] => .command (.forceRestore u) | _ => .malformed
  | 0x14 => match payload with | [u] => .command (.clearLatch u) | _ => .malformed
  | 0x15 => match payload with | [c, t] => .command (.setConduit c t) | _ => .malformed
  | 0x20 => parsePlan payload
  | 0x21 => match payload with | [g1, g0] => .command (.clearPlan (half g1 g0)) | _ => .malformed
  | 0x22 => match payload with | [] => .command .copyActive | _ => .malformed
  | 0x23 => match payload with | [g1, g0, b] => .command (.readPlan (half g1 g0) b) | _ => .malformed
  | 0x24 => match payload with | [] => .command .swap | _ => .malformed
  | 0x25 => match payload with | [g1, g0] => .command (.readGroup (half g1 g0)) | _ => .malformed
  | 0x26 => match payload with | [s1, s0] => parseSelector (half s1 s0) | _ => .malformed
  | 0x30 => match payload with | [l, e, p, r] => .command (.setLane l e p r) | _ => .malformed
  | 0x31 => match payload with | [ms] => .command (.setFwdlink ms) | _ => .malformed
  | 0x32 => match payload with | [t, l1, l0, u] => .command (.setAlert t (half l1 l0) u) | _ => .malformed
  | 0x33 => match payload with | [n] => .command (.fetchEvents n) | _ => .malformed
  | 0x3F => match payload with | [] => .command .reset | _ => .malformed
  | _ => .unknown

end Sys2Proof
end

