-- ==== Sys2Proof/Machine/State.lean ====
section
/-! DEFINITION. The state of the UP16, block by block as section 3 of the scope chapter lists them, as plain data, and
the state right after reset. Times are microseconds on the elapsed-time scale unless a field says otherwise. -/

namespace Sys2Proof.Machine

/-! ### Uplinks (chapters 1 to 3) -/

/-- Admin modes (section 1.3). -/
inductive AdminMode where
  | active
  | drain
  | disabled
deriving DecidableEq, Repr

/-- The six health states (section 1.5). -/
inductive Health where
  | idle
  | start
  | up
  | holdoff
  | down
  | restoring
deriving DecidableEq, Repr

/-- Degrade policies (section 1.1). -/
inductive Policy where
  | report
  | fail
deriving DecidableEq, Repr

/-- Continuity (section 2.1); `inactive` is the spec's NONE. -/
inductive Continuity where
  | inactive
  | notEstablished
  | established
  | lost
deriving DecidableEq, Repr

/-- The continuity deadline (section 2.1). -/
inductive Deadline where
  | stopped
  | running (expiry : Nat)
  | suspended
deriving DecidableEq, Repr

/-- The fate of one probe from the far end (section 2.8). -/
inductive ProbeOutcome where
  | good
  | missed
  | errored
deriving DecidableEq, Repr

/-- The probe clock: its start time, and how many emissions of its schedule have been made (R31, R32). -/
inductive ProbeClock where
  | stopped
  | running (start : Nat) (emitted : Nat)
deriving DecidableEq, Repr

/-- The eleven settings SET-UPLINK writes (R170), in its units. -/
structure Settings where
  conduit : Option Conduit
  lossQualify : Nat
  lightQualify : Nat
  holdOff : Nat
  waitToRestore : Nat
  interval : Nat
  phase : Nat
  multiplier : Nat
  setThreshold : Nat
  clearThreshold : Nat
  policy : Policy
deriving DecidableEq, Repr

/-- The four latched alarms (R22). -/
structure Latches where
  los : Bool
  cont : Bool
  rdi : Bool
  sd : Bool
deriving DecidableEq, Repr

/-- Everything the part holds for one uplink (sections 1.1, 2.1, 3.1). A timer is `none` while stopped and otherwise
its expiry. `losPin` is the level of the loss-of-light input. -/
structure UplinkState where
  losPin : Bool
  rawLos : Bool
  qualLos : Bool
  lossTimer : Option Nat
  lightTimer : Option Nat
  settings : Settings
  admin : AdminMode
  health : Health
  holdOffTimer : Option Nat
  restoreTimer : Option Nat
  latches : Latches
  clock : ProbeClock
  outSeq : Byte
  lastAccepted : Option Byte
  errored : Nat
  continuity : Continuity
  deadline : Deadline
  rdi : Bool
  window : List ProbeOutcome
  degraded : Bool
  shunned : Bool
  usable : Bool
deriving DecidableEq, Repr

/-- What a conduit holds (section 3.1). -/
structure ConduitState where
  tripCount : Nat
  tripped : Bool
deriving DecidableEq, Repr

/-- A set of uplinks, as snapshots and CONDUIT events hold one. -/
abbrev UplinkSet := Vector Bool 16

/-! ### Plans and buckets (chapters 4 to 6) -/

/-- The two banks. -/
inductive Bank where
  | A
  | B
deriving DecidableEq, Repr

/-- Folds (R64). -/
inductive Fold where
  | direct
  | fold
deriving DecidableEq, Repr

/-- Revert modes (R64). -/
inductive RevertMode where
  | revertive
  | nonRevertive
deriving DecidableEq, Repr

/-- Empty actions (R64). -/
inductive EmptyAction where
  | punt
  | discard
deriving DecidableEq, Repr

/-- A member of a plan: an uplink and its weight (R64). -/
structure Member where
  uplink : Uplink
  weight : Nat
deriving DecidableEq, Repr

/-- A plan record (R64). -/
structure Plan where
  members : List Member
  fold : Fold
  revert : RevertMode
  fallback : Option Group
  emptyAction : EmptyAction
deriving DecidableEq, Repr

/-- The default record (R65). -/
def Plan.default : Plan :=
  { members := [], fold := .direct, revert := .revertive, fallback := none, emptyAction := .punt }

/-- A store addressed by group number: listed groups with rising numbers; an unlisted group reads as the store's
reset record. DESIGN CHOICE, log entries 17 and 20. -/
abbrev GroupMap (α : Type) := List (Group × α)

/-- The Plan Store (section 4.2). -/
structure PlanStore where
  bankA : GroupMap Plan
  bankB : GroupMap Plan
  active : Bank
  swapInFlight : Bool
deriving DecidableEq, Repr

/-- A bucket: home and current slot (R84). Both absent is cleared. -/
structure Bucket where
  home : Option Slot
  current : Option Slot
deriving DecidableEq, Repr

/-- The cleared bucket (R84). -/
def Bucket.cleared : Bucket := { home := none, current := none }

/-- A group's 64 buckets in one bank (R84). -/
abbrev BucketArray := Vector Bucket 64

/-- 64 cleared buckets. -/
def BucketArray.cleared : BucketArray := Vector.replicate 64 Bucket.cleared

/-- What the Bucket Store holds for one group (section 6.1). -/
structure GroupBuckets where
  arrayA : BucketArray
  arrayB : BucketArray
  selector : Bank
  evacuated : Bool
  unplannedHit : Bool
deriving DecidableEq, Repr

/-- A group's buckets after reset (R116). -/
def GroupBuckets.reset : GroupBuckets :=
  { arrayA := BucketArray.cleared, arrayB := BucketArray.cleared, selector := .A, evacuated := false,
    unplannedHit := false }

/-- The flags of a dirty-set entry or of a mark (R97). -/
structure DirtyFlags where
  replan : Bool
  rebalance : Bool
deriving DecidableEq, Repr

/-- The pass record (section 6.1). -/
structure PassRecord where
  group : Group
  flags : DirtyFlags
  snapshot : UplinkSet
deriving DecidableEq, Repr

/-- An open episode (R114). -/
structure Episode where
  startSeconds : Word
  startMicros : Nat
  passes : Nat
deriving DecidableEq, Repr

/-- The Sweep Engine (section 6.1): `pass = none` is IDLE, `episode = none` is closed. -/
structure SweepState where
  dirty : GroupMap DirtyFlags
  cursor : Group
  pass : Option PassRecord
  episode : Option Episode
deriving DecidableEq, Repr

/-! ### Lookups (chapter 7) -/

/-- A queued request: the four contents of its LOOKUP-REQ (section 7.1). -/
structure Request where
  lane : Lane
  tag : Half
  group : BitVec 12
  hash : Half
deriving DecidableEq, Repr

/-- The results of R134: five dispositions and two refusals. -/
inductive LookupResult where
  | forward
  | standin
  | fallback
  | punt
  | discard
  | overrun
  | refused
deriving DecidableEq, Repr

/-- A LOOKUP-ANS before it is laid out (R134). -/
structure Answer where
  lane : Lane
  tag : Half
  result : LookupResult
  uplink : Option Uplink
  bucket : Option BucketNo
  range : Bool
  unplanned : Bool
  unsettled : Bool
deriving DecidableEq, Repr

/-- One lane (section 7.1). -/
structure LaneState where
  enabled : Bool
  pauseMark : Nat
  resumeMark : Nat
  queue : List Request
  paused : Bool
  overrun : Bool
deriving DecidableEq, Repr

/-- The Lookup Engine (section 7.1): `serving = none` is IDLE. -/
structure LookupState where
  lanes : Vector LaneState 4
  serving : Option Answer
  lastServed : Lane
deriving DecidableEq, Repr

/-! ### The forwarding port (chapter 8) -/

/-- A PAUSE (`pause = true`) or RESUME record waiting in the signal list (R143). -/
structure Signal where
  lane : Lane
  pause : Bool
deriving DecidableEq, Repr

/-- A PROBE-OUT waiting in the probe list (R143); its body check is formed when it is laid out. -/
structure ProbeOut where
  uplink : Uplink
  seq : Byte
  rdi : Bool
deriving DecidableEq, Repr

/-- The silence timer while it runs: its expiry, and the silence time in milliseconds it was given (R139, R142). -/
structure SilenceRun where
  expiry : Nat
  given : Nat
deriving DecidableEq, Repr

/-- The Forwarding Port Interface (section 8.1), and `ftx`, the record the outward lane carries. -/
structure FwdState where
  linkUp : Bool
  silenceTimer : Option SilenceRun
  silence : Nat
  headerErrors : Nat
  refusals : List Answer
  signals : List Signal
  probes : List ProbeOut
  ftx : Option Record
deriving DecidableEq, Repr

/-! ### Events and time (chapter 9) -/

/-- Event severities (R150). -/
inductive Severity where
  | routine
  | urgent
deriving DecidableEq, Repr

/-- Causes of UPLINK-RESTORING and UPLINK-UP (R21). -/
inductive Cause where
  | start
  | clear
  | rideThrough
  | restored
  | forced
deriving DecidableEq, Repr

/-- A defect set (R12). -/
structure Defects where
  los : Bool
  cont : Bool
  rdi : Bool
  sd : Bool
deriving DecidableEq, Repr

/-- The sixteen event kinds with their subjects and details (section 9.3.1). -/
inductive Event where
  | uplinkHoldoff (uplink : Uplink) (defects : Defects)
  | uplinkDown (uplink : Uplink) (defects : Defects)
  | uplinkRestoring (uplink : Uplink) (cause : Cause)
  | uplinkUp (uplink : Uplink) (cause : Cause)
  | degradeSet (uplink : Uplink) (policy : Policy) (nonGood length : Nat)
  | degradeClear (uplink : Uplink) (nonGood length : Nat)
  | conduitTrip (conduit : Conduit) (tripCount downCount : Nat) (shunned : UplinkSet)
  | conduitRelease (conduit : Conduit) (tripCount downCount : Nat) (ended : UplinkSet)
  | groupEvacuated (group : Group) (replan : Bool) (bank : Bank)
  | groupRecovered (group : Group) (replan : Bool) (bank : Bank) (usableMembers : Nat)
  | swapDone (bank : Bank)
  | settled (startSeconds : Word) (startMicros passes : Nat)
  | laneOverrun (lane : Lane) (tag : Half)
  | unplannedHit (group : Group) (lane : Lane) (bank : Bank)
  | fwdLinkUp (kind : InKind)
  | fwdLinkDown (silence headerErrors : Nat)
deriving DecidableEq, Repr

/-- A queued event record (R150): kind, severity, subject and detail are those of `event`; `enqueuedAt` is the
enqueue moment on the elapsed scale, which R149 does not move and R156 reads. -/
structure EventRecord where
  event : Event
  seconds : Word
  micros : Nat
  enqueuedAt : Nat
deriving DecidableEq, Repr

/-- The linger timer (R156). -/
inductive LingerTimer where
  | stopped
  | running (expiry : Nat)
  | expired
deriving DecidableEq, Repr

/-- The Event Queue with its settings and the alert line (section 9.1). -/
structure EventQueue where
  records : List EventRecord
  lost : Bool
  trigger : Nat
  linger : Nat
  urgentImmediate : Bool
  lingerTimer : LingerTimer
  alert : Bool
deriving DecidableEq, Repr

/-- The time base (R148), and `now`, the elapsed-time scale that timers are measured on. -/
structure Clock where
  seconds : Word
  micros : Nat
  now : Nat
deriving DecidableEq, Repr

/-! ### The control port (chapter 10) -/

/-- Receiver states (R161). -/
inductive RxState where
  | hunting
  | length
  | body
  | check
deriving DecidableEq, Repr

/-- The fault codes of R167. -/
inductive FaultCode where
  | group
  | count
  | uplink
  | weight
  | duplicate
  | mode
  | fallback
  | conduit
  | lane
deriving DecidableEq, Repr

/-- A reply's status with its items (R167); an OK reply's items as the bytes R179 gives them. -/
inductive ReplyBody where
  | ok (clamped : Bool) (items : List Byte)
  | invalid (fault : FaultCode) (slot : Option Nat)
  | busy
  | wrongState (health : Health)
  | full
  | unknown
  | malformed
deriving DecidableEq, Repr

/-- A reply: the type and tag of the frame it answers, and its status (R166). -/
structure Reply where
  type : Byte
  tag : Byte
  body : ReplyBody
deriving DecidableEq, Repr

/-- A command with the tag of its frame. -/
structure TaggedCommand where
  tag : Byte
  command : Command
deriving DecidableEq, Repr

/-- The Control Port Interface (the table at the head of chapter 10), and `ctx`, the last reply sent whole.
`frame` holds the bytes since the start byte and is empty in HUNTING. -/
structure ControlState where
  rx : RxState
  frame : List Byte
  frameErrors : Nat
  queue : List TaggedCommand
  inHand : Option TaggedCommand
  replies : List Reply
  ctx : Option Reply
deriving DecidableEq, Repr

end Sys2Proof.Machine

namespace Sys2Proof.Machine

/-- The machine. `resetHeld` is the RESET input; `pending` is the model's own queue of commands that wait. -/
structure State where
  clock : Clock
  uplinks : Vector UplinkState 16
  conduits : Vector ConduitState 8
  plans : PlanStore
  buckets : GroupMap GroupBuckets
  sweep : SweepState
  lookup : LookupState
  fwd : FwdState
  events : EventQueue
  control : ControlState
  resetHeld : Bool
  pending : List Instr
deriving DecidableEq, Repr

/-- No rule of the manual stops the part: it has no fault. -/
inductive Fault where
deriving DecidableEq, Repr

/-- Why a command could have no meaning. -/
inductive Refusal where
  /-- Raised by `exec` alone, for a row that has no meaning yet; safe, since the run stops. No row is left so. -/
  | notModelled (mnemonic : String)
deriving DecidableEq, Repr

/-- What a step of the machine answers. -/
abbrev Result := Host.Outcome State Fault Refusal

/-! ### Reset values -/

/-- The settings after reset (R24, R50, R62). -/
def Settings.reset : Settings :=
  { conduit := none, lossQualify := 50, lightQualify := 100, holdOff := 0, waitToRestore := 60, interval := 10,
    phase := 0, multiplier := 0, setThreshold := 0, clearThreshold := 0, policy := .report }

/-- No latch set (R24). -/
def Latches.clear : Latches := { los := false, cont := false, rdi := false, sd := false }

/-- An uplink after reset (R24, R50, R62), its input and raw LOS at the levels given: raw LOS is not reset (R24). -/
def UplinkState.reset (losPin rawLos : Bool) : UplinkState :=
  { losPin, rawLos, qualLos := false, lossTimer := none, lightTimer := none, settings := Settings.reset,
    admin := .disabled, health := .idle, holdOffTimer := none, restoreTimer := none, latches := Latches.clear,
    clock := .stopped, outSeq := 0#8, lastAccepted := none, errored := 0, continuity := .inactive,
    deadline := .stopped, rdi := false, window := [], degraded := false, shunned := false, usable := false }

/-- A conduit after reset (R62). -/
def ConduitState.reset : ConduitState := { tripCount := 0, tripped := false }

/-- The Plan Store after reset (R81). -/
def PlanStore.reset : PlanStore := { bankA := [], bankB := [], active := .A, swapInFlight := false }

/-- The Sweep Engine after reset (R116). -/
def SweepState.reset : SweepState := { dirty := [], cursor := 0, pass := none, episode := none }

/-- A lane after reset (R136). -/
def LaneState.reset : LaneState :=
  { enabled := true, pauseMark := 12, resumeMark := 4, queue := [], paused := false, overrun := false }

/-- The Lookup Engine after reset (R136). -/
def LookupState.reset : LookupState :=
  { lanes := Vector.replicate 4 LaneState.reset, serving := none, lastServed := 3 }

/-- The Forwarding Port Interface after reset (R147); a record already begun on the outward lane is completed. -/
def FwdState.reset (ftx : Option Record) : FwdState :=
  { linkUp := false, silenceTimer := none, silence := 10, headerErrors := 0, refusals := [], signals := [],
    probes := [], ftx }

/-- The Event Queue after reset (R159). -/
def EventQueue.reset : EventQueue :=
  { records := [], lost := false, trigger := 1, linger := 0, urgentImmediate := true, lingerTimer := .stopped,
    alert := false }

/-- The time base after reset (R159). DESIGN CHOICE, log entry 9: the elapsed scale starts from 0 with it. -/
def Clock.reset : Clock := { seconds := 0#32, micros := 0, now := 0 }

/-- The Control Port Interface after reset (R175); what the line has already carried whole is not taken back. -/
def ControlState.reset (ctx : Option Reply) : ControlState :=
  { rx := .hunting, frame := [], frameErrors := 0, queue := [], inHand := none, replies := [], ctx }

/-- The machine right after reset (R174), the RESET input released. DESIGN CHOICE, log entries 7 and 8: every
loss-of-light input deasserted (the spec gives the level of the input), nothing sent yet on either line. -/
def State.reset : State :=
  { clock := Clock.reset, uplinks := Vector.replicate 16 (UplinkState.reset false false),
    conduits := Vector.replicate 8 ConduitState.reset, plans := PlanStore.reset, buckets := [],
    sweep := SweepState.reset, lookup := LookupState.reset, fwd := FwdState.reset none,
    events := EventQueue.reset, control := ControlState.reset none, resetHeld := false, pending := [] }

end Sys2Proof.Machine
end

