-- ==== Sys2Proof/Machine/Ops.lean ====
section
/-! DEFINITION. The named operations the meanings are built from: elapsed time, reading and writing one uplink,
conduit, lane or group, the group-addressed stores, the event queue with its alert line, and replies. -/

namespace Sys2Proof.Machine

/-! ### Elapsed time -/

/-- `k` microseconds pass: the elapsed scale and the time base advance together (R148). -/
def Clock.advance (k : Nat) (c : Clock) : Clock :=
  { now := c.now + k,
    seconds := c.seconds + BitVec.ofNat 32 ((c.micros + k) / 1000000),
    micros := (c.micros + k) % 1000000 }

/-- Elapsed time moves on to `t`, if it has not reached it. DESIGN CHOICE, log entry 2. -/
def State.advanceTo (t : Nat) (s : State) : State := { s with clock := s.clock.advance (t - s.clock.now) }

/-- What the block does when no command waits. DESIGN CHOICE, log entry 3: one microsecond passes, unless the RESET
input holds the part (R148, R174). -/
def State.tick (s : State) : State := if s.resetHeld then s else { s with clock := s.clock.advance 1 }

/-- Milliseconds in microseconds. -/
def ms (n : Nat) : Nat := n * 1000

/-- Seconds in microseconds. -/
def sec (n : Nat) : Nat := n * 1000000

/-- The time remaining to an expiry, in milliseconds rounded up; 0 when none runs (R26, R51),
and for one whose moment has passed (DESIGN CHOICE, log entry 24). -/
def remainingMs (now : Nat) : Option Nat → Nat
  | none => 0
  | some t => (t - now + 999) / 1000

/-! ### Uplinks, conduits, lanes -/

/-- What the part holds for one uplink. -/
def State.uplink (s : State) (u : Uplink) : UplinkState := s.uplinks.get u

/-- One uplink's state written. -/
def State.setUplink (s : State) (u : Uplink) (x : UplinkState) : State := { s with uplinks := s.uplinks.set u x }

/-- What the part holds for one conduit. -/
def State.conduit (s : State) (c : Conduit) : ConduitState := s.conduits.get c

/-- One conduit's state written. -/
def State.setConduit (s : State) (c : Conduit) (x : ConduitState) : State := { s with conduits := s.conduits.set c x }

/-- What the part holds for one lane. -/
def State.lane (s : State) (l : Lane) : LaneState := s.lookup.lanes.get l

/-- One lane's state written. -/
def State.setLane (s : State) (l : Lane) (x : LaneState) : State :=
  { s with lookup := { s.lookup with lanes := s.lookup.lanes.set l x } }

/-- An uplink in ACTIVE or DRAIN is monitored (section 1.3). -/
def UplinkState.monitored (x : UplinkState) : Bool := x.admin ≠ .disabled

/-- R27: an uplink probes while it is monitored and its detect multiplier is not 0. -/
def UplinkState.probing (x : UplinkState) : Bool := x.monitored && x.settings.multiplier ≠ 0

/-! ### Group-addressed stores -/

/-- What a store lists for a group. -/
def GroupMap.find {α : Type} (m : GroupMap α) (g : Group) : Option α :=
  (List.find? (fun e => e.1 = g) m).map (·.2)

/-- A store with one entry made or replaced, in place by group number. -/
def GroupMap.insert {α : Type} (g : Group) (x : α) : GroupMap α → GroupMap α
  | [] => [(g, x)]
  | e :: rest =>
    if g < e.1 then (g, x) :: e :: rest
    else if g = e.1 then (g, x) :: rest
    else e :: GroupMap.insert g x rest

/-- A store with one entry gone. -/
def GroupMap.erase {α : Type} (g : Group) (m : GroupMap α) : GroupMap α := List.filter (fun e => e.1 ≠ g) m

/-- What a store with reset record `d` holds for a group. -/
def GroupMap.get {α : Type} (d : α) (m : GroupMap α) (g : Group) : α := (GroupMap.find m g).getD d

/-- A record written into a store with reset record `d`; the reset record is never listed. -/
def GroupMap.put {α : Type} [DecidableEq α] (d : α) (g : Group) (x : α) (m : GroupMap α) : GroupMap α :=
  if x = d then GroupMap.erase g m else GroupMap.insert g x m

/-- The store that lists exactly what a function gives. -/
def GroupMap.build {α : Type} (f : Group → Option α) : GroupMap α :=
  (List.finRange 1024).filterMap fun g => (f g).map fun x => (g, x)

/-- Canonical form, first half: group numbers strictly rise. -/
abbrev GroupMap.sorted {α : Type} (m : GroupMap α) : Prop := List.Pairwise (fun a b => a.1 < b.1) m

/-- Canonical form of a store with reset record `d`: rising group numbers, and the reset record never listed. -/
abbrev GroupMap.canonical {α : Type} [DecidableEq α] (d : α) (m : GroupMap α) : Prop :=
  GroupMap.sorted m ∧ ∀ e ∈ m, e.2 ≠ d

/-- The bank that is not this one. -/
def Bank.other : Bank → Bank
  | .A => .B
  | .B => .A

/-- The records of a bank. -/
def PlanStore.bank (p : PlanStore) : Bank → GroupMap Plan
  | .A => p.bankA
  | .B => p.bankB

/-- A bank's records written whole. -/
def PlanStore.setBank (p : PlanStore) (b : Bank) (m : GroupMap Plan) : PlanStore :=
  match b with
  | .A => { p with bankA := m }
  | .B => { p with bankB := m }

/-- The shadow bank: the one the active-bank identity does not name (section 4.2). -/
def PlanStore.shadow (p : PlanStore) : Bank := p.active.other

/-- The plan record of a group in a bank. -/
def State.planIn (s : State) (b : Bank) (g : Group) : Plan := GroupMap.get Plan.default (s.plans.bank b) g

/-- What the Bucket Store holds for a group. -/
def State.group (s : State) (g : Group) : GroupBuckets := GroupMap.get GroupBuckets.reset s.buckets g

/-- A group's record of the Bucket Store written. -/
def State.setGroup (s : State) (g : Group) (x : GroupBuckets) : State :=
  { s with buckets := GroupMap.put GroupBuckets.reset g x s.buckets }

/-- The bucket array of a bank. -/
def GroupBuckets.array (x : GroupBuckets) : Bank → BucketArray
  | .A => x.arrayA
  | .B => x.arrayB

/-- A bank's bucket array written. -/
def GroupBuckets.setArray (x : GroupBuckets) (b : Bank) (a : BucketArray) : GroupBuckets :=
  match b with
  | .A => { x with arrayA := a }
  | .B => { x with arrayB := a }

/-- The plan a group is served from: the record of the bank its selector names (R78). -/
def State.servedPlan (s : State) (g : Group) : Plan := s.planIn (s.group g).selector g

/-- The bucket array a group is served from. -/
def State.servedArray (s : State) (g : Group) : BucketArray := (s.group g).array (s.group g).selector

/-- R65: a record with one or more members is planned. -/
def Plan.planned (p : Plan) : Bool := p.members ≠ []

/-- A plan names an uplink as a member. -/
def Plan.names (p : Plan) (u : Uplink) : Bool := p.members.any fun m => m.uplink = u

/-- The member in a slot, if the slot is populated (R64, R84). -/
def Plan.member (p : Plan) (k : Slot) : Option Member := p.members[k.val]?

/-- The live usable flags of all sixteen uplinks, as a snapshot or a lookup reads them (R52, R100). -/
def State.usableFlags (s : State) : UplinkSet := Vector.ofFn fun u => (s.uplink u).usable

/-- R74: during a swap, how many groups' selectors still name the active bank; outside a swap, 0. -/
def State.replansRemaining (s : State) : Nat :=
  if s.plans.swapInFlight then
    ((List.finRange 1024).filter fun g => (s.group g).selector = s.plans.active).length
  else 0

/-! ### The event queue (chapter 9) -/

/-- The severity of an event (section 9.3.1). -/
def Event.severity : Event → Severity
  | .uplinkDown _ _ => .urgent
  | .degradeSet _ .fail _ _ => .urgent
  | .conduitTrip _ _ _ _ => .urgent
  | .groupEvacuated _ _ _ => .urgent
  | .fwdLinkDown _ _ => .urgent
  | .uplinkHoldoff _ _ => .routine
  | .uplinkRestoring _ _ => .routine
  | .uplinkUp _ _ => .routine
  | .degradeSet _ .report _ _ => .routine
  | .degradeClear _ _ _ => .routine
  | .conduitRelease _ _ _ _ => .routine
  | .groupRecovered _ _ _ _ => .routine
  | .swapDone _ => .routine
  | .settled _ _ _ => .routine
  | .laneOverrun _ _ => .routine
  | .unplannedHit _ _ _ => .routine
  | .fwdLinkUp _ => .routine

/-- An URGENT record. -/
def EventRecord.urgent (r : EventRecord) : Bool := r.event.severity = .urgent

/-- The most records the queue holds (R151). -/
def eventCapacity : Nat := 64

/-- R156: the linger timer aimed at the oldest record. -/
def EventQueue.aimed (q : EventQueue) (now : Nat) : LingerTimer :=
  match q.records with
  | [] => .stopped
  | r :: _ =>
    if q.linger = 0 then .stopped
    else if r.enqueuedAt + ms q.linger ≤ now then .expired
    else .running (r.enqueuedAt + ms q.linger)

/-- The queue with its linger timer re-aimed (R156). -/
def EventQueue.aim (q : EventQueue) (now : Nat) : EventQueue := { q with lingerTimer := q.aimed now }

/-- R155: at least one of the level, linger and urgent conditions holds. -/
def EventQueue.alertDue (q : EventQueue) : Bool :=
  decide (q.trigger ≤ q.records.length)
    || (decide (q.linger ≠ 0) && !q.records.isEmpty && decide (q.lingerTimer = .expired))
    || (q.urgentImmediate && q.records.any EventRecord.urgent)

/-- The alert line evaluated (R155). -/
def EventQueue.evaluate (q : EventQueue) : EventQueue := { q with alert := q.alertDue }

/-- The records with the newest one that satisfies `p` removed, if any does. -/
def removeNewest (p : EventRecord → Bool) : List EventRecord → Option (List EventRecord)
  | [] => none
  | r :: rest =>
    match removeNewest p rest with
    | some rest' => some (r :: rest')
    | none => if p r then some rest else none

/-- R151, R152: one record handed to the queue. A full queue discards it, or removes its newest ROUTINE record for
an URGENT one; either sets the lost flag. The linger timer is aimed anew when the record removed was the oldest, that
is, when no other could be removed (R156), and the alert line evaluated (R155; DEDUCED, log entry 25: also
where the record is discarded). -/
def EventQueue.enqueue (q : EventQueue) (r : EventRecord) (now : Nat) : EventQueue :=
  if q.records.length < eventCapacity then
    let q' := { q with records := q.records ++ [r] }
    (if q.records = [] then q'.aim now else q').evaluate
  else if r.urgent then
    match removeNewest (fun x => !x.urgent) q.records with
    | some kept =>
      let q' := { q with records := kept ++ [r], lost := true }
      (if (removeNewest (fun x => !x.urgent) q.records.tail).isNone then q'.aim now else q').evaluate
    | none => ({ q with lost := true } : EventQueue).evaluate
  else ({ q with lost := true } : EventQueue).evaluate

/-- R150: an event stamped with the time base and its enqueue moment. -/
def Event.stamped (e : Event) (c : Clock) : EventRecord :=
  { event := e, seconds := c.seconds, micros := c.micros, enqueuedAt := c.now }

/-- R150, R151: an event queued. -/
def State.raise (e : Event) (s : State) : State :=
  { s with events := s.events.enqueue (e.stamped s.clock) s.clock.now }

/-- The events of one step queued in turn, each a separate arrival (R151). -/
def State.raiseAll (es : List Event) (s : State) : State := es.foldl (fun s e => s.raise e) s

/-! ### The dirty set (sections 6.2 and 6.7) -/

/-- R97: a group's entry after a mark with flags `f`. -/
def DirtyFlags.merge (old : Option DirtyFlags) (f : DirtyFlags) : DirtyFlags :=
  match old with
  | some e => { replan := e.replan || f.replan, rebalance := e.rebalance || f.rebalance }
  | none => f

/-- R97: the dirty set after marks with flags `f` on every group that `marked` picks. -/
def State.markedDirty (s : State) (marked : Group → Bool) (f : DirtyFlags) : GroupMap DirtyFlags :=
  GroupMap.build fun g =>
    if marked g then some (DirtyFlags.merge (GroupMap.find s.sweep.dirty g) f) else GroupMap.find s.sweep.dirty g

/-- R114: the marks make at least one new entry. -/
def State.makesNew (s : State) (marked : Group → Bool) : Bool :=
  (List.finRange 1024).any fun g => marked g && (GroupMap.find s.sweep.dirty g).isNone

/-- R114: the episode after a delivery. One that makes a new entry while no episode is open opens one. -/
def State.episodeAfter (s : State) (marked : Group → Bool) : Option Episode :=
  match s.sweep.episode with
  | some e => some e
  | none =>
    if s.makesNew marked then some { startSeconds := s.clock.seconds, startMicros := s.clock.micros, passes := 0 }
    else none

/-- R97, R114: marks on every group that `marked` picks, delivered together with one pair of flags. -/
def State.deliver (marked : Group → Bool) (f : DirtyFlags) (s : State) : State :=
  { s with sweep := { s.sweep with dirty := s.markedDirty marked f, episode := s.episodeAfter marked } }

/-! ### Replies (R166) -/

/-- A reply joins the reply list. -/
def State.reply (type tag : Byte) (body : ReplyBody) (s : State) : State :=
  { s with control := { s.control with replies := s.control.replies ++ [{ type, tag, body }] } }

/-- A count that stays at its bound (R35, R105, R138, R162). -/
def saturating (bound n : Nat) : Nat := if n < bound then n + 1 else bound

end Sys2Proof.Machine
end

