-- ==== Sys2Proof/Machine/Flags.lean ====
section
/-! DEFINITION. Every flag the part computes from other state: defect sets, latches, the usable, tripped and shunned
conditions, the degraded flag's evaluation, the local defect a probe reports, and the masks of section 11.4. -/

namespace Sys2Proof.Machine

/-! ### Defects (section 1.4) -/

/-- R12: the defect sources present on an uplink. -/
def UplinkState.defects (x : UplinkState) : Defects :=
  { los := x.qualLos,
    cont := x.probing && (x.continuity = .lost || x.continuity = .notEstablished),
    rdi := x.probing && x.rdi,
    sd := x.probing && x.degraded && x.settings.policy = .fail }

/-- Defect present: the set is not empty (R12). -/
def Defects.present (d : Defects) : Bool := d.los || d.cont || d.rdi || d.sd

/-- R33: the RDI flag of an emitted probe, which is the uplink's local defect. -/
def UplinkState.localDefect (x : UplinkState) : Bool :=
  x.qualLos || x.continuity = .lost || x.continuity = .notEstablished

/-! ### Latched alarms (section 1.7) -/

/-- R22: each latch is set at the moment its source becomes true; `old` is the uplink before the step. -/
def UplinkState.latch (old x : UplinkState) : UplinkState :=
  { x with latches :=
    { los := x.latches.los || (!old.qualLos && x.qualLos),
      cont := x.latches.cont || (old.continuity = .established && x.continuity = .lost),
      rdi := x.latches.rdi || (!old.rdi && x.rdi),
      sd := x.latches.sd || (!old.degraded && x.degraded) } }

/-- R23: each latch whose live source is absent is cleared. -/
def UplinkState.clearLatches (x : UplinkState) : UplinkState :=
  { x with latches :=
    { los := x.latches.los && x.qualLos,
      cont := x.latches.cont && x.continuity = .lost,
      rdi := x.latches.rdi && x.rdi,
      sd := x.latches.sd && x.degraded } }

/-! ### Degrade (section 2.8) -/

/-- The number of non-GOOD outcomes in a window (R45). -/
def nonGood (w : List ProbeOutcome) : Nat := w.countP fun o => o ≠ .good

/-- The most outcomes a window holds (R44). -/
def windowCapacity : Nat := 32

/-- R44: one outcome pushed; a push that would make 33 removes the oldest first. -/
def pushOutcome (w : List ProbeOutcome) (o : ProbeOutcome) : List ProbeOutcome :=
  if w.length < windowCapacity then w ++ [o] else w.tail ++ [o]

/-- R45, R46: the degraded flag evaluated against the window as it stands. A set threshold of 0 turns detection off. -/
def UplinkState.degradeDue (x : UplinkState) : Bool :=
  if x.settings.setThreshold = 0 then false
  else if x.degraded then !(decide (nonGood x.window ≤ x.settings.clearThreshold))
  else decide (x.settings.setThreshold ≤ nonGood x.window)

/-- The degraded flag written with its evaluation. -/
def UplinkState.evaluateDegrade (x : UplinkState) : UplinkState := { x with degraded := x.degradeDue }

/-- R47: the event of a change of the degraded flag, if it changed; counts read as the flag is written
(DEDUCED for an emptied window, log entry 13). -/
def degradeEvents (u : Uplink) (old x : UplinkState) : List Event :=
  if !old.degraded && x.degraded then [.degradeSet u x.settings.policy (nonGood x.window) x.window.length]
  else if old.degraded && !x.degraded then [.degradeClear u (nonGood x.window) x.window.length]
  else []

/-! ### Usability and conduits (chapter 3) -/

/-- "Degraded under the FAIL policy" (R52). -/
def UplinkState.degradedUnderFail (x : UplinkState) : Bool := x.degraded && x.settings.policy = .fail

/-- R52: the usable condition. -/
def UplinkState.usableDue (x : UplinkState) : Bool :=
  x.admin = .active && (x.health = .up || x.health = .holdoff) && !x.shunned && !x.degradedUnderFail

/-- An uplink that counts in its conduit's DOWN count: monitored, and its health DOWN (section 3.1). -/
def UplinkState.countsDown (x : UplinkState) : Bool := x.monitored && x.health = .down

/-- A conduit's DOWN count (section 3.1), computed from its members as they stand. -/
def State.downCount (s : State) (c : Conduit) : Nat :=
  ((List.finRange 16).filter fun u => (s.uplink u).settings.conduit = some c && (s.uplink u).countsDown).length

/-- R58: the tripped condition of a conduit. -/
def State.trippedDue (s : State) (c : Conduit) : Bool :=
  (s.conduit c).tripCount ≠ 0 && decide ((s.conduit c).tripCount ≤ s.downCount c)

/-- R59: the shunned condition of an uplink. -/
def State.shunnedDue (s : State) (u : Uplink) : Bool :=
  let x := s.uplink u
  x.monitored && x.health ≠ .down &&
    match x.settings.conduit with
    | some c => s.trippedDue c
    | none => false

/-- The members of a conduit. -/
def State.members (s : State) (c : Conduit) : UplinkSet :=
  Vector.ofFn fun u => (s.uplink u).settings.conduit = some c

/-! ### Masks and codes (sections 11.4 and 11.5) -/

/-- A flag as a byte: 1 for set, 0 for clear (R179). -/
def flagByte (b : Bool) : Byte := if b then 1#8 else 0#8

/-- A four-bit mask, bit 0 first (section 11.4). -/
def mask4 (b0 b1 b2 b3 : Bool) : Byte :=
  byte (b0.toNat + 2 * b1.toNat + 4 * b2.toNat + 8 * b3.toNat)

/-- The defect mask: LOS, CONT, RDI, SD (section 11.4). -/
def Defects.mask (d : Defects) : Byte := mask4 d.los d.cont d.rdi d.sd

/-- The latch mask: LOS-SEEN, CONT-SEEN, RDI-SEEN, SD-SEEN (section 11.4). -/
def Latches.mask (l : Latches) : Byte := mask4 l.los l.cont l.rdi l.sd

/-- The condition mask of R63: each condition of R52 that fails (section 11.4); 0 when the uplink is usable. -/
def UplinkState.conditionMask (x : UplinkState) : Byte :=
  if x.usable then 0#8
  else mask4 (x.admin ≠ .active) (!(x.health = .up || x.health = .holdoff)) x.shunned x.degradedUnderFail

/-- A set of uplinks as two bytes, bit n standing for Un (R179). -/
def setBytes (v : UplinkSet) : List Byte :=
  be16 ((List.finRange 16).foldl (fun n u => if v.get u then n + 2 ^ u.val else n) 0)

/-- The codes of section 11.5. -/
def AdminMode.code : AdminMode → Byte
  | .active => 0#8
  | .drain => 1#8
  | .disabled => 2#8

def Health.code : Health → Byte
  | .idle => 0#8
  | .start => 1#8
  | .up => 2#8
  | .holdoff => 3#8
  | .down => 4#8
  | .restoring => 5#8

def Cause.code : Cause → Byte
  | .start => 0#8
  | .clear => 1#8
  | .rideThrough => 2#8
  | .restored => 3#8
  | .forced => 4#8

def Policy.code : Policy → Byte
  | .report => 0#8
  | .fail => 1#8

def Continuity.code : Continuity → Byte
  | .inactive => 0#8
  | .notEstablished => 1#8
  | .established => 2#8
  | .lost => 3#8

def Deadline.code : Deadline → Byte
  | .stopped => 0#8
  | .running _ => 1#8
  | .suspended => 2#8

def ProbeOutcome.code : ProbeOutcome → Byte
  | .good => 0#8
  | .missed => 1#8
  | .errored => 2#8

def Fold.code : Fold → Byte
  | .direct => 0#8
  | .fold => 1#8

def RevertMode.code : RevertMode → Byte
  | .revertive => 0#8
  | .nonRevertive => 1#8

def EmptyAction.code : EmptyAction → Byte
  | .punt => 0#8
  | .discard => 1#8

def Bank.code : Bank → Byte
  | .A => 0#8
  | .B => 1#8

/-- Which qualify timer runs: NONE 0, LOSS-QUALIFY 1, LIGHT-QUALIFY 2. -/
def UplinkState.qualifyCode (x : UplinkState) : Byte :=
  if x.lossTimer.isSome then 1#8 else if x.lightTimer.isSome then 2#8 else 0#8

def LookupResult.code : LookupResult → Byte
  | .forward => 0#8
  | .standin => 1#8
  | .fallback => 2#8
  | .punt => 3#8
  | .discard => 4#8
  | .overrun => 5#8
  | .refused => 6#8

def FaultCode.code : FaultCode → Byte
  | .group => 1#8
  | .count => 2#8
  | .uplink => 3#8
  | .weight => 4#8
  | .duplicate => 5#8
  | .mode => 6#8
  | .fallback => 7#8
  | .conduit => 8#8
  | .lane => 9#8

/-- A conduit membership as SET-UPLINK's field codes it: 0 to 7, or FFh for none (R179). DEDUCED,
log entry 15. -/
def conduitCode : Option Conduit → Byte
  | some c => byte c.val
  | none => 0xFF#8

end Sys2Proof.Machine
end

