-- ==== Sys2Proof/Machine/EventReports.lean ====
section
/-! DEFINITION. The event record as it is sent (R150, section 11.4), SET-ALERT and FETCH-EVENTS on the Event Queue
(R154, R157), the time base loaded (R149), and LINGER_EXPIRY. -/

namespace Sys2Proof.Machine

/-- Kind codes (section 11.4). -/
def Event.kindCode : Event → Byte
  | .uplinkHoldoff _ _ => 0x01#8
  | .uplinkDown _ _ => 0x02#8
  | .uplinkRestoring _ _ => 0x03#8
  | .uplinkUp _ _ => 0x04#8
  | .degradeSet _ _ _ _ => 0x05#8
  | .degradeClear _ _ _ => 0x06#8
  | .conduitTrip _ _ _ _ => 0x07#8
  | .conduitRelease _ _ _ _ => 0x08#8
  | .groupEvacuated _ _ _ => 0x09#8
  | .groupRecovered _ _ _ _ => 0x0A#8
  | .swapDone _ => 0x0B#8
  | .settled _ _ _ => 0x0C#8
  | .laneOverrun _ _ => 0x0D#8
  | .unplannedHit _ _ _ => 0x0E#8
  | .fwdLinkUp _ => 0x0F#8
  | .fwdLinkDown _ _ => 0x10#8

/-- Subject type and number (section 11.4); 0 and 0 when absent. -/
def Event.subject : Event → Byte × Nat
  | .uplinkHoldoff u _ => (1#8, u.val)
  | .uplinkDown u _ => (1#8, u.val)
  | .uplinkRestoring u _ => (1#8, u.val)
  | .uplinkUp u _ => (1#8, u.val)
  | .degradeSet u _ _ _ => (1#8, u.val)
  | .degradeClear u _ _ => (1#8, u.val)
  | .conduitTrip c _ _ _ => (2#8, c.val)
  | .conduitRelease c _ _ _ => (2#8, c.val)
  | .groupEvacuated g _ _ => (3#8, g.val)
  | .groupRecovered g _ _ _ => (3#8, g.val)
  | .swapDone _ => (0#8, 0)
  | .settled _ _ _ => (0#8, 0)
  | .laneOverrun l _ => (4#8, l.val)
  | .unplannedHit g _ _ => (3#8, g.val)
  | .fwdLinkUp _ => (0#8, 0)
  | .fwdLinkDown _ _ => (0#8, 0)

/-- The detail bytes of each kind (section 11.4). -/
def Event.detail : Event → List Byte
  | .uplinkHoldoff _ d => [d.mask]
  | .uplinkDown _ d => [d.mask]
  | .uplinkRestoring _ c => [c.code]
  | .uplinkUp _ c => [c.code]
  | .degradeSet _ _ n len => [byte n, byte len]
  | .degradeClear _ n len => [byte n, byte len]
  | .conduitTrip _ t d v => [byte t, byte d] ++ setBytes v
  | .conduitRelease _ t d v => [byte t, byte d] ++ setBytes v
  | .groupEvacuated _ r b => [flagByte r, b.code]
  | .groupRecovered _ r b n => [flagByte r, b.code, byte n]
  | .swapDone b => [b.code]
  | .settled seconds micros passes => Word.bytes seconds ++ be32 (micros * 4096 + passes)
  | .laneOverrun _ tag => Half.bytes tag
  | .unplannedHit _ l b => [byte l.val, b.code]
  | .fwdLinkUp k => [k.code]
  | .fwdLinkDown silence errors => [byte silence, byte errors]

/-- A severity's code: 0 ROUTINE, 1 URGENT (section 11.4). -/
def Severity.code : Severity → Byte
  | .routine => 0#8
  | .urgent => 1#8

/-- The 22 bytes of an event record (section 11.4). -/
def EventRecord.bytes (r : EventRecord) : List Byte :=
  let d := r.event.detail
  [r.event.kindCode, r.event.severity.code] ++ Word.bytes r.seconds ++ be32 r.micros
    ++ [r.event.subject.1] ++ be16 r.event.subject.2 ++ [byte d.length] ++ d ++ List.replicate (8 - d.length) 0#8

/-- How many URGENT records are queued (R158). -/
def EventQueue.urgentCount (q : EventQueue) : Nat := q.records.countP EventRecord.urgent

/-- R154, steps 1, 3, 4 and 5: the first `n` records removed, the lost flag cleared, the linger timer aimed, the line
evaluated. The timer is aimed only where a fetch removes records or leaves the queue empty (R156). -/
def EventQueue.fetch (q : EventQueue) (n now : Nat) : EventQueue :=
  let q' := { q with records := q.records.drop n, lost := false }
  (if q.records = [] then q' else q'.aim now).evaluate

/-- R157: the three settings written, then the linger timer aimed and the line evaluated. -/
def EventQueue.setAlert (q : EventQueue) (trigger linger : Nat) (urgentImmediate : Bool) (now : Nat) : EventQueue :=
  (({ q with trigger, linger, urgentImmediate } : EventQueue).aim now).evaluate

/-- R149: the time base loaded. The elapsed scale does not move. -/
def Clock.load (c : Clock) (seconds : Word) : Clock := { c with seconds, micros := 0 }

/-- LINGER_EXPIRY (R156): the linger condition comes to hold and the line is evaluated. DESIGN CHOICE, log entry 24: not
before this row, though the moment may have passed. -/
def lingerExpiry (s : State) : State :=
  match s.events.lingerTimer with
  | .running t =>
    let s1 := s.advanceTo t
    { s1 with events := ({ s1.events with lingerTimer := .expired } : EventQueue).evaluate }
  | .stopped => s
  | .expired => s

def execLingerExpiry (s : State) : Result := .next (if s.resetHeld then s else lingerExpiry s)

end Sys2Proof.Machine
end

