-- ==== Sys2Proof/Machine/Buckets.lean ====
section
/-! DEFINITION. The bucket arithmetic of chapter 5: folds, largest-remainder apportionment, home assignment, the four
steps of a pass, and the stand-in. -/

namespace Sys2Proof.Machine

/-! ### Folding the flow hash (section 5.2) -/

/-- R85, R86: the bucket a flow hash selects under a fold. -/
def foldHash (f : Fold) (hash : Half) : BucketNo :=
  let h := hash.toNat
  match f with
  | .direct => Fin.ofNat 64 (h % 64)
  | .fold => Fin.ofNat 64 ((h % 64 ^^^ h / 64 % 64) ^^^ h / 4096)

/-! ### Apportionment and home (section 5.3) -/

/-- Members with their slots and weights, lowest slot first, kept where `keep` holds. -/
def Plan.weighted (p : Plan) (keep : Member → Bool) : List (Slot × Nat) :=
  (List.finRange 8).filterMap fun k =>
    match p.member k with
    | some m => if keep m then some (k, m.weight) else none
    | none => none

/-- R88: the sum of the weights over S. -/
def totalWeight (S : List (Slot × Nat)) : Nat := (S.map (·.2)).sum

/-- R88, step 1: a member's floor share. -/
def floorShare (W w : Nat) : Nat := 64 * w / W

/-- R88, step 1: a member's remainder. -/
def remainder (W w : Nat) : Nat := 64 * w % W

/-- R88, step 2: the buckets the floor shares leave over. -/
def leftOver (S : List (Slot × Nat)) : Nat := 64 - (S.map fun e => floorShare (totalWeight S) e.2).sum

/-- R88, step 3: how many members of S rank before this one: a larger remainder, or an equal one in a lower slot. -/
def rankBefore (S : List (Slot × Nat)) (e : Slot × Nat) : Nat :=
  S.countP fun x =>
    remainder (totalWeight S) e.2 < remainder (totalWeight S) x.2
      || (remainder (totalWeight S) x.2 = remainder (totalWeight S) e.2 && x.1 < e.1)

/-- R88: each member's share of the 64 buckets. -/
def apportion (S : List (Slot × Nat)) : List (Slot × Nat) :=
  S.map fun e => (e.1, floorShare (totalWeight S) e.2 + if rankBefore S e < leftOver S then 1 else 0)

/-- R89: the home slots of buckets 0, 1, 2, ... : contiguous runs in slot order. -/
def homeRuns (p : Plan) : List Slot :=
  (apportion (p.weighted fun _ => true)).flatMap fun e => List.replicate e.2 e.1

/-- R89: the home assignment of a planned record, home and current alike. -/
def homeArray (p : Plan) : BucketArray :=
  Vector.ofFn fun b => { home := (homeRuns p)[b.val]?, current := (homeRuns p)[b.val]? }

/-! ### The steps of a pass (section 5.4) -/

/-- A slot's member is usable in a set of usable flags (R90, R95). -/
def Plan.slotUsable (p : Plan) (usable : UplinkSet) (k : Slot) : Bool :=
  match p.member k with
  | some m => usable.get m.uplink
  | none => false

/-- The uplink of a slot, if its member is usable. -/
def Plan.usableUplink (p : Plan) (usable : UplinkSet) (k : Slot) : Option Uplink :=
  match p.member k with
  | some m => if usable.get m.uplink then some m.uplink else none
  | none => none

/-- R90: the usable set of a pass, with weights. -/
def Plan.usableSet (p : Plan) (snapshot : UplinkSet) : List (Slot × Nat) :=
  p.weighted fun m => snapshot.get m.uplink

/-- R91: one bucket in the revert step. -/
def revertBucket (p : Plan) (snapshot : UplinkSet) (b : Bucket) : Bucket :=
  match b.home with
  | some h => if p.slotUsable snapshot h then { b with current := some h } else b
  | none => b

/-- R91: the revert step. -/
def revertStep (p : Plan) (rebalance : Bool) (snapshot : UplinkSet) (a : BucketArray) : BucketArray :=
  if p.revert = .revertive || rebalance then Vector.ofFn fun b => revertBucket p snapshot (a.get b) else a

/-- R92: a bucket whose current member is not usable in the snapshot. -/
def isOrphan (p : Plan) (snapshot : UplinkSet) (b : Bucket) : Bool :=
  match b.current with
  | some k => !p.slotUsable snapshot k
  | none => true

/-- How many buckets have a slot as current. -/
def countCurrent (a : List Bucket) (k : Slot) : Nat := a.countP fun b => b.current = some k

/-- R93: each usable member's deficit, target minus count, lowest slot first. -/
def deficits (targets : List (Slot × Nat)) (a : List Bucket) : List (Slot × Int) :=
  targets.map fun e => (e.1, (e.2 : Int) - (countCurrent a e.1 : Int))

/-- R93: the member with the greatest deficit; among equals, the lower slot. -/
def greatest : List (Slot × Int) → Option (Slot × Int)
  | [] => none
  | e :: rest =>
    match greatest rest with
    | none => some e
    | some x => if x.2 ≤ e.2 then some e else some x

/-- A member's count rises by 1, so its deficit falls by 1. -/
def giveOne (k : Slot) (d : List (Slot × Int)) : List (Slot × Int) :=
  d.map fun e => if e.1 = k then (e.1, e.2 - 1) else e

/-- R93: the orphans dealt one at a time, in ascending bucket number. -/
def dealFrom (p : Plan) (snapshot : UplinkSet) : List (Slot × Int) → List Bucket → List Bucket
  | _, [] => []
  | d, b :: rest =>
    if isOrphan p snapshot b then
      match greatest d with
      | some m => { b with current := some m.1 } :: dealFrom p snapshot (giveOne m.1 d) rest
      | none => b :: dealFrom p snapshot d rest
    else b :: dealFrom p snapshot d rest

/-- Dealing keeps the number of buckets. -/
theorem dealFrom_length (p : Plan) (snapshot : UplinkSet) (d : List (Slot × Int)) (a : List Bucket) :
    (dealFrom p snapshot d a).length = a.length := by
  induction a generalizing d with
  | nil => rfl
  | cons b rest ih =>
    simp only [dealFrom]
    split
    · split <;> simp [ih]
    · simp [ih]

/-- R93: the deal step, which runs when the usable set is not empty. -/
def dealStep (p : Plan) (snapshot : UplinkSet) (a : BucketArray) : BucketArray :=
  let S := p.usableSet snapshot
  if S.isEmpty then a
  else
    ⟨(dealFrom p snapshot (deficits (apportion S) a.toList) a.toList).toArray, by simp [dealFrom_length]⟩

/-- R90 to R94: the array a pass computes from the one it is presented. -/
def passArray (p : Plan) (rebalance : Bool) (snapshot : UplinkSet) (a : BucketArray) : BucketArray :=
  dealStep p snapshot (revertStep p rebalance snapshot a)

/-- R94: the evacuated flag a pass computes. -/
def passEvacuated (p : Plan) (snapshot : UplinkSet) : Bool := (p.usableSet snapshot).isEmpty

/-! ### The stand-in (section 5.5) -/

/-- R95: the slots examined, in cyclic ascending order from the slot after the current one, wrapping from the last
populated slot to M0; the current slot comes last. -/
def standInOrder (p : Plan) (current : Slot) : List Slot :=
  (List.range p.members.length).map fun j => Fin.ofNat 8 ((current.val + 1 + j) % p.members.length)

/-- R95: the stand-in's uplink, if a member is usable. -/
def standIn (p : Plan) (usable : UplinkSet) (current : Slot) : Option Uplink :=
  (standInOrder p current).findSome? (p.usableUplink usable)

end Sys2Proof.Machine
end

