-- ==== Sys2Proof/Machine/Outward.lean ====
section
/-! DEFINITION. The outward direction of the forwarding port up to the choice of R144: the layouts of outward records
(R178), the record the lane carries, and the placing of records handed for sending (R143). -/

namespace Sys2Proof.Machine

/-! ### Layouts of outward records (R178) -/

/-- A lane in bits 7-6 of byte 1. -/
def laneBits (l : Lane) : Byte := byte (l.val * 64)

/-- A byte with a presence bit in bit 7 (R177). -/
def presentByte {n : Nat} : Option (Fin n) → Byte
  | some v => byte (128 + v.val)
  | none => 0#8

/-- LOOKUP-ANS. -/
def Answer.record (a : Answer) : Record :=
  Record.sealed Code.lookupAns (laneBits a.lane ||| a.result.code) (a.tag.extractLsb' 8 8) (a.tag.extractLsb' 0 8)
    (presentByte a.uplink) (presentByte a.bucket)
    (byte (a.range.toNat + 2 * a.unplanned.toNat + 4 * a.unsettled.toNat))

/-- PAUSE and RESUME. -/
def Signal.record (x : Signal) : Record :=
  Record.sealed (if x.pause then Code.pause else Code.resume) (byte x.lane.val) 0#8 0#8 0#8 0#8 0#8

/-- PROBE-OUT, with its body check. -/
def ProbeOut.record (x : ProbeOut) : Record :=
  let flags : Byte := if x.rdi then 1#8 else 0#8
  Record.sealed Code.probeOut (byte x.uplink.val) x.seq flags (~~~x.seq) (~~~flags) 0#8

/-- SYNC. -/
def syncRecord : Record := Record.sealed Code.sync 0#8 0#8 0#8 0#8 0#8 0#8

/-! ### The lane -/

/-- The record the outward lane carries set. -/
def State.send (r : Record) (s : State) : State := { s with fwd := { s.fwd with ftx := some r } }

/-! ### The outward lists (R143) -/

/-- An answer placed in the refusal list, which has two places. DEDUCED, log entry 10: R143 has a record time begin
between two inward records, and the refusal list has its first choice (R144); so a third answer, handed while both
places are taken, finds the head already being sent. -/
def FwdState.placeRefusal (a : Answer) (f : FwdState) : FwdState :=
  match f.refusals with
  | head :: second :: rest => { f with refusals := second :: rest ++ [a], ftx := some head.record }
  | _ => { f with refusals := f.refusals ++ [a] }

/-- An OVERRUN or REFUSED answer handed for sending. -/
def State.handRefusal (a : Answer) (s : State) : State :=
  if s.fwd.linkUp then { s with fwd := s.fwd.placeRefusal a } else s

/-- A PAUSE or RESUME handed for sending: it replaces a waiting signal of the same lane. -/
def State.handSignal (x : Signal) (s : State) : State :=
  if s.fwd.linkUp then
    { s with fwd := { s.fwd with signals := s.fwd.signals.filter (fun y => y.lane ≠ x.lane) ++ [x] } }
  else s

/-- A PROBE-OUT handed for sending: it replaces a waiting probe of the same uplink. -/
def State.handProbe (x : ProbeOut) (s : State) : State :=
  if s.fwd.linkUp then
    { s with fwd := { s.fwd with probes := s.fwd.probes.filter (fun y => y.uplink ≠ x.uplink) ++ [x] } }
  else s

end Sys2Proof.Machine
end

