-- ==== Sys2Proof/Machine/Lookup.lean ====
section
/-! DEFINITION. The Lookup Engine (chapter 7): lane queues with pause and resume, the arbiter, the decision chain, the
answer; SERVICE_BEGIN. -/

namespace Sys2Proof.Machine

/-- The most requests a lane's queue holds (R120). -/
def laneCapacity : Nat := 16

/-! ### Pause and resume (R119) -/

/-- R119, pause condition: the flag is clear and the count at or above the pause mark. -/
def LaneState.pauseDue (x : LaneState) : Bool := !x.paused && decide (x.pauseMark ≤ x.queue.length)

/-- R119, resume condition: the flag is set and the count at or below the resume mark. -/
def LaneState.resumeDue (x : LaneState) : Bool := x.paused && decide (x.queue.length ≤ x.resumeMark)

/-- R119: the pause condition evaluated on a lane. -/
def State.evaluatePause (l : Lane) (s : State) : State :=
  if (s.lane l).pauseDue then
    (s.setLane l { s.lane l with paused := true }).handSignal { lane := l, pause := true }
  else s

/-- R119: the resume condition evaluated on a lane. -/
def State.evaluateResume (l : Lane) (s : State) : State :=
  if (s.lane l).resumeDue then
    (s.setLane l { s.lane l with paused := false, overrun := false }).handSignal { lane := l, pause := false }
  else s

/-! ### Arrival at a lane (section 7.2) -/

/-- R134: the answer of a request that is not served. -/
def refusalAnswer (l : Lane) (tag : Half) (r : LookupResult) : Answer :=
  { lane := l, tag, result := r, uplink := none, bucket := none, range := false, unplanned := false,
    unsettled := false }

/-- The request a LOOKUP-REQ brings (section 7.1). -/
def Record.request (r : Record) : Request := { lane := r.lane, tag := r.reqTag, group := r.groupField, hash := r.hash }

/-- R118, R121, R122: a request arrives at its lane. -/
def State.laneArrival (q : Request) (s : State) : State :=
  let x := s.lane q.lane
  if !x.enabled then s.handRefusal (refusalAnswer q.lane q.tag .refused)
  else if laneCapacity ≤ x.queue.length then
    let s1 := s.handRefusal (refusalAnswer q.lane q.tag .overrun)
    if x.overrun then s1 else (s1.setLane q.lane { x with overrun := true }).raise (.laneOverrun q.lane q.tag)
  else (s.setLane q.lane { x with queue := x.queue ++ [q] }).evaluatePause q.lane

/-! ### The decision chain (section 7.4) -/

/-- R134: a group is in the dirty set or under a pass. -/
def State.unsettled (s : State) (g : Group) : Bool :=
  (GroupMap.find s.sweep.dirty g).isSome ||
    (match s.sweep.pass with
     | some p => decide (p.group = g)
     | none => false)

/-- R130, R131: the bucket a hash selects in a group, and the uplink its current member or stand-in gives. -/
structure GroupReading where
  bucket : BucketNo
  direct : Option Uplink
  standIn : Option Uplink
deriving DecidableEq, Repr

/-- R87, R95, R96: one group read for one hash, by its own served plan and array and live usability. -/
def State.readFor (s : State) (g : Group) (hash : Half) : GroupReading :=
  let p := s.servedPlan g
  let b := foldHash p.fold hash
  match ((s.servedArray g).get b).current with
  | some k => { bucket := b, direct := p.usableUplink s.usableFlags k, standIn := standIn p s.usableFlags k }
  | none => { bucket := b, direct := none, standIn := none }

/-- R132: the uplink a fallback group gives, if it is planned and has a usable member. -/
def State.fallbackUplink (s : State) (g : Group) (hash : Half) : Option (BucketNo × Uplink) :=
  if !(s.servedPlan g).planned then none
  else
    let r := s.readFor g hash
    match r.direct.or r.standIn with
    | some u => some (r.bucket, u)
    | none => none

/-- An answer to a served request. -/
def Request.answer (q : Request) (result : LookupResult) (uplink : Option Uplink) (bucket : Option BucketNo)
    (unsettled : Bool) : Answer :=
  { lane := q.lane, tag := q.tag, result, uplink, bucket, range := false, unplanned := false, unsettled }

/-- The disposition of an empty action. -/
def EmptyAction.result : EmptyAction → LookupResult
  | .punt => .punt
  | .discard => .discard

/-- R130 to R133: the chain from check 3 on, for a planned original group. -/
def State.decidePlanned (s : State) (q : Request) (g : Group) : Answer :=
  let p := s.servedPlan g
  let r := s.readFor g q.hash
  match r.direct with
  | some u => q.answer .forward (some u) (some r.bucket) (s.unsettled g)
  | none =>
    match r.standIn with
    | some u => q.answer .standin (some u) (some r.bucket) (s.unsettled g)
    | none =>
      match p.fallback.bind fun f => (s.fallbackUplink f q.hash).map fun x => (f, x) with
      | some (f, b, u) => q.answer .fallback (some u) (some b) (s.unsettled f)
      | none => q.answer p.emptyAction.result none (some r.bucket) (s.unsettled g)

/-- The group a request names, if the UP16 holds it (R128). -/
def Request.group? (q : Request) : Option Group :=
  if h : q.group.toNat < 1024 then some ⟨q.group.toNat, h⟩ else none

/-- R127 to R133: the answer of a request on one reading of the part. -/
def State.answerTo (s : State) (q : Request) : Answer :=
  match q.group? with
  | none => { q.answer .punt none none false with range := true }
  | some g =>
    if (s.servedPlan g).planned then s.decidePlanned q g
    else { q.answer .punt none none false with unplanned := true }

/-- R129: a lookup on an unplanned group sets its unplanned-hit flag and queues UNPLANNED-HIT, if the flag was clear. -/
def State.noteUnplanned (s : State) (q : Request) : State :=
  match q.group? with
  | none => s
  | some g =>
    if (s.servedPlan g).planned || (s.group g).unplannedHit then s
    else
      (s.setGroup g { s.group g with unplannedHit := true }).raise (.unplannedHit g q.lane (s.group g).selector)

/-! ### The arbiter and the engine (section 7.3) -/

/-- R124, step 1: the lanes in cyclic order from the one after the last served, which comes last. -/
def cyclicLanes (last : Lane) : List Lane := [last + 1, last + 2, last + 3, last]

/-- R124, step 1: the first lane of that order whose queue is not empty. -/
def State.chooseLane (s : State) : Option Lane :=
  (cyclicLanes s.lookup.lastServed).find? fun l => !(s.lane l).queue.isEmpty

/-- R124, steps 2 to 5, on the chosen lane and its head. The answer is decided on the part as it stands, before the
unplanned-hit flag is written. -/
def State.serve (l : Lane) (q : Request) (rest : List Request) (s : State) : State :=
  let s1 := s.setLane l { s.lane l with queue := rest }
  let s2 := ({ s1 with lookup := { s1.lookup with lastServed := l } } : State).evaluateResume l
  let a := s2.answerTo q
  let s3 := s2.noteUnplanned q
  { s3 with lookup := { s3.lookup with serving := some a } }

/-- SERVICE_BEGIN (R124): with the engine IDLE and a queue not empty. DESIGN CHOICE, log entry 19: the sender gives it. -/
def serviceBegin (s : State) : State :=
  match s.lookup.serving with
  | some _ => s
  | none =>
    match s.chooseLane with
    | none => s
    | some l =>
      match (s.lane l).queue with
      | [] => s
      | q :: rest => s.serve l q rest

/-- R135: the lanes when the forwarding link is lost. -/
def LaneState.flush (x : LaneState) : LaneState := { x with queue := [], paused := false, overrun := false }

/-- R135: the Lookup Engine when the forwarding link is lost. -/
def State.flushLanes (s : State) : State :=
  { s with lookup := { s.lookup with lanes := Vector.ofFn fun l => (s.lane l).flush, serving := none } }

def execServiceBegin (s : State) : Result := .next (if s.resetHeld then s else serviceBegin s)

end Sys2Proof.Machine
end

