-- ==== Sys2Proof/Machine/Monitor.lean ====
section
/-! DEFINITION. The Uplink Monitor: the protection machine (R13 to R21), the usability evaluation with conduits and
dirty marks (R53 to R60), and HOLD_OFF_EXPIRY and WAIT_TO_RESTORE_EXPIRY. -/

namespace Sys2Proof.Machine

/-! ### The protection machine (section 1.5) -/

/-- Health becomes UP and UPLINK-UP is raised. -/
def UplinkState.goUp (x : UplinkState) (u : Uplink) (c : Cause) : UplinkState × List Event :=
  ({ x with health := .up }, [.uplinkUp u c])

/-- Health becomes DOWN and UPLINK-DOWN is raised with the defect set as it stands. -/
def UplinkState.goDown (x : UplinkState) (u : Uplink) : UplinkState × List Event :=
  ({ x with health := .down }, [.uplinkDown u x.defects])

/-- R14, R17: a clean uplink enters RESTORING for the wait-to-restore, or UP when that setting is 0. -/
def UplinkState.restore (x : UplinkState) (u : Uplink) (now : Nat) (c : Cause) : UplinkState × List Event :=
  if x.settings.waitToRestore = 0 then x.goUp u c
  else
    ({ x with health := .restoring, restoreTimer := some (now + sec x.settings.waitToRestore) },
     [.uplinkRestoring u c])

/-- R14: the check of an uplink in START. -/
def UplinkState.startCheck (x : UplinkState) (u : Uplink) (now : Nat) : UplinkState × List Event :=
  if x.defects.present then (x, []) else x.restore u now .start

/-- R15: a defect appears on an UP uplink. -/
def UplinkState.judge (x : UplinkState) (u : Uplink) (now : Nat) : UplinkState × List Event :=
  if x.settings.holdOff = 0 then x.goDown u
  else
    ({ x with health := .holdoff, holdOffTimer := some (now + ms x.settings.holdOff) }, [.uplinkHoldoff u x.defects])

/-- R13: the single evaluation of the defect set, `before` being the set before the step, and what the protection
machine does with its class (R14 to R18). -/
def UplinkState.protect (x : UplinkState) (u : Uplink) (now : Nat) (before : Defects) : UplinkState × List Event :=
  if before = x.defects then (x, [])
  else
    match x.health with
    | .start => x.startCheck u now
    | .up => if !before.present && x.defects.present then x.judge u now else (x, [])
    | .down => if before.present && !x.defects.present then x.restore u now .clear else (x, [])
    | .restoring =>
      if !before.present && x.defects.present then { x with restoreTimer := none }.goDown u else (x, [])
    | .idle => (x, [])
    | .holdoff => (x, [])

/-! ### The usability evaluation (section 3.2) -/

/-- R53, step 1: the conduits whose state an event on uplink `u` may have changed. A membership change names the
old one first (R56). -/
def touchedConduits (old x : UplinkState) : List Conduit :=
  if old.settings.conduit ≠ x.settings.conduit then [old.settings.conduit, x.settings.conduit].filterMap id
  else if old.health ≠ x.health ∨ old.admin ≠ x.admin then x.settings.conduit.toList
  else []

/-- R53, step 1: the tripped flags of the conduits evaluated (R58). -/
def State.writeTripped (touched : List Conduit) (s : State) : State :=
  { s with conduits := Vector.ofFn fun c =>
      if c ∈ touched then { s.conduit c with tripped := s.trippedDue c } else s.conduit c }

/-- R53, step 2: an uplink whose shunned flag is written: a member of a conduit evaluated, or one that has left it. -/
def shunWritten (touched : List Conduit) (old x : UplinkState) : Bool :=
  (match x.settings.conduit with
   | some c => decide (c ∈ touched)
   | none => false) || old.settings.conduit ≠ x.settings.conduit

/-- R53, step 2 (R59). -/
def State.writeShunned (touched : List Conduit) (before s : State) : State :=
  { s with uplinks := Vector.ofFn fun u =>
      if shunWritten touched (before.uplink u) (s.uplink u) then { s.uplink u with shunned := s.shunnedDue u }
      else s.uplink u }

/-- R53, step 3: an input of the usable condition has changed in this step. -/
def usableInputsChanged (old x : UplinkState) : Bool :=
  old.admin ≠ x.admin || old.health ≠ x.health || old.shunned ≠ x.shunned || old.degraded ≠ x.degraded
    || old.settings.policy ≠ x.settings.policy

/-- R53, step 3 (R52). -/
def State.writeUsable (before s : State) : State :=
  { s with uplinks := Vector.ofFn fun u =>
      if usableInputsChanged (before.uplink u) (s.uplink u) then { s.uplink u with usable := (s.uplink u).usableDue }
      else s.uplink u }

/-- The uplinks whose usable flag differs between two states. -/
def usableChanges (before s : State) : List Uplink :=
  (List.finRange 16).filter fun u => (before.uplink u).usable ≠ (s.uplink u).usable

/-- A group is under a replan pass (R55). -/
def State.underReplan (s : State) (g : Group) : Bool :=
  match s.sweep.pass with
  | some p => p.group = g && p.flags.replan
  | none => false

/-- R54, R55: the plans that decide whether a group is marked for an uplink: the served one, and both during a
replan pass on the group. -/
def State.marksFor (s : State) (u : Uplink) (g : Group) : Bool :=
  (s.servedPlan g).names u
    || (s.underReplan g && (s.planIn (s.group g).selector.other g).names u)

/-- R53, step 4: the dirty marks of the uplinks whose usable flag changed, delivered together. -/
def State.markChanged (changed : List Uplink) (s : State) : State :=
  if changed.isEmpty then s
  else s.deliver (fun g => changed.any fun u => s.marksFor u g) { replan := false, rebalance := false }

/-- The members of a conduit that are shunned. -/
def State.shunnedMembers (s : State) (c : Conduit) : UplinkSet :=
  Vector.ofFn fun u => (s.uplink u).settings.conduit = some c && (s.uplink u).shunned

/-- R60: the event of one conduit evaluated, from the flags before and after. CONDUIT-TRIP names the members shunned;
CONDUIT-RELEASE those shunned before the step and not after it. DEDUCED, log entry 16: membership is read after it. -/
def conduitEvent (before s : State) (c : Conduit) : Option Event :=
  if !(before.conduit c).tripped && (s.conduit c).tripped then
    some (.conduitTrip c (s.conduit c).tripCount (s.downCount c) (s.shunnedMembers c))
  else if (before.conduit c).tripped && !(s.conduit c).tripped then
    some (.conduitRelease c (s.conduit c).tripCount (s.downCount c) (Vector.ofFn fun u =>
      (s.uplink u).settings.conduit = some c && (before.uplink u).shunned && !(s.uplink u).shunned))
  else none

/-- R53: the flags of the usability evaluation, steps 1 to 3. -/
def State.usabilityFlags (touched : List Conduit) (before s : State) : State :=
  State.writeUsable before (State.writeShunned touched before (s.writeTripped touched))

/-- R53: the usability evaluation that follows an event in the same step. `before` is the part before the event,
`touched` the conduits of step 1, `health` the events of the originating rule, which are queued first (step 5). -/
def State.evaluateUsability (touched : List Conduit) (health : List Event) (s before : State) : State :=
  let s1 := State.usabilityFlags touched before s
  let s2 := s1.markChanged (usableChanges before s1)
  s2.raiseAll (health ++ touched.filterMap (conduitEvent before s1))

/-- What follows a change of one uplink's state in any rule: latches (R22), the single defect evaluation (R13), and
the usability evaluation (R53). `before` is the part before the event. -/
def State.settleUplink (u : Uplink) (s before : State) : State :=
  let x := (before.uplink u).latch (s.uplink u)
  let y := x.protect u s.clock.now (before.uplink u).defects
  (s.setUplink u y.1).evaluateUsability (touchedConduits (before.uplink u) y.1) y.2 before

/-- A change of health by a rule of its own (an expiry, FORCE-RESTORE): the health event and the usability
evaluation. -/
def State.settleHealth (u : Uplink) (y : UplinkState × List Event) (s before : State) : State :=
  (s.setUplink u y.1).evaluateUsability (touchedConduits (before.uplink u) y.1) y.2 before

/-! ### The two timers -/

/-- R16: the judgement at the hold-off expiry. -/
def UplinkState.holdOffJudgement (x : UplinkState) (u : Uplink) : UplinkState × List Event :=
  if x.defects.present then { x with holdOffTimer := none }.goDown u
  else { x with holdOffTimer := none }.goUp u .rideThrough

/-- HOLD_OFF_EXPIRY (R16). -/
def holdOffExpiry (u : Uplink) (s : State) : State :=
  match (s.uplink u).holdOffTimer with
  | some t =>
    let s1 := s.advanceTo t
    s1.settleHealth u ((s1.uplink u).holdOffJudgement u) s1
  | none => s

/-- WAIT_TO_RESTORE_EXPIRY (R18). -/
def waitToRestoreExpiry (u : Uplink) (s : State) : State :=
  match (s.uplink u).restoreTimer with
  | some t =>
    let s1 := s.advanceTo t
    s1.settleHealth u ({ s1.uplink u with restoreTimer := none }.goUp u .restored) s1
  | none => s

/-- An event at a block that is not held at its reset values (R174). DEDUCED, log entry 21. -/
def whenRunning (s : State) (f : State → State) : Result := .next (if s.resetHeld then s else f s)

def execHoldOffExpiry (u : Uplink) (s : State) : Result := whenRunning s (holdOffExpiry u)

def execWaitToRestoreExpiry (u : Uplink) (s : State) : Result := whenRunning s (waitToRestoreExpiry u)

end Sys2Proof.Machine
end

