-- ==== Sys2Proof/Machine/Probing.lean ====
section
/-! DEFINITION. The Probe Engine (chapter 2): beginning and end of probing, emission, arrival classes, the continuity
deadline; PROBE_EMISSION and CONTINUITY_DEADLINE_EXPIRY. -/

namespace Sys2Proof.Machine

/-! ### The deadline (section 2.5) -/

/-- R39: the expiry a refresh or setting of the deadline gives: the detect multiplier times the probe interval. -/
def UplinkState.deadlineFrom (x : UplinkState) (now : Nat) : Nat :=
  now + ms (x.settings.multiplier * x.settings.interval)

/-- R41: a deadline when the link goes DOWN. -/
def UplinkState.suspendDeadline (x : UplinkState) : UplinkState :=
  if x.continuity = .established then { x with deadline := .suspended } else x

/-- R42: a deadline when the link comes UP. -/
def UplinkState.resumeDeadline (x : UplinkState) (now : Nat) : UplinkState :=
  if x.deadline = .suspended then { x with deadline := .running (x.deadlineFrom now) } else x

/-! ### Emission (section 2.3) -/

/-- R31: the next emission of a running clock: the start time plus the phase, and then every interval after that. -/
def UplinkState.nextEmission (x : UplinkState) : Option Nat :=
  match x.clock with
  | .running start emitted => some (start + ms x.settings.phase + emitted * ms x.settings.interval)
  | .stopped => none

/-- R32: one emission of an uplink: a PROBE-OUT with the RDI flag of R33, handed for sending, and the outgoing
sequence advanced modulo 256. A record handed while the link is DOWN is not kept. -/
def State.emit (u : Uplink) (s : State) : State :=
  let x := s.uplink u
  match x.clock with
  | .running start emitted =>
    (s.setUplink u { x with outSeq := x.outSeq + 1#8, clock := .running start (emitted + 1) }).handProbe
      { uplink := u, seq := x.outSeq, rdi := x.localDefect }
  | .stopped => s

/-- R31: a clock that has just started makes the emission due at its start time, with a phase of 0, in the same step. -/
def State.emitAtStart (u : Uplink) (s : State) : State :=
  if (s.uplink u).settings.phase = 0 then s.emit u else s

/-! ### Beginning and end of probing (section 2.2) -/

/-- R28: probing begins from IDLE. -/
def UplinkState.beginFromIdle (x : UplinkState) (now : Nat) : UplinkState :=
  { x with
    outSeq := 0#8, lastAccepted := none, errored := 0, continuity := .notEstablished, deadline := .stopped,
    rdi := false, window := [], degraded := false, clock := .running now 0 }

/-- R29: probing begins by a multiplier change on a monitored uplink: NOT-ESTABLISHED in START, else the grace period. -/
def UplinkState.beginByMultiplier (x : UplinkState) (now : Nat) (linkUp : Bool) : UplinkState :=
  let y := { x with
    lastAccepted := none, errored := 0, rdi := false, window := [], degraded := false, clock := .running now 0 }
  if x.health = .start then { y with continuity := .notEstablished, deadline := .stopped }
  else
    { y with
      continuity := .established,
      deadline := if linkUp then .running (x.deadlineFrom now) else .suspended }

/-- R30: probing ends. The outgoing sequence keeps its value. -/
def UplinkState.endProbing (x : UplinkState) : UplinkState :=
  { x with
    clock := .stopped, deadline := .stopped, continuity := .inactive, rdi := false, window := [], degraded := false,
    lastAccepted := none, errored := 0 }

/-- R31: the clock restarts at a moment. -/
def UplinkState.restartClock (x : UplinkState) (now : Nat) : UplinkState := { x with clock := .running now 0 }

/-! ### Arrival (section 2.4) -/

/-- R35: an ERRORED arrival on an uplink whose continuity is ESTABLISHED. -/
def UplinkState.erroredArrival (x : UplinkState) (now : Nat) : UplinkState :=
  { x with
    deadline := .running (x.deadlineFrom now), window := pushOutcome x.window .errored,
    errored := saturating 255 x.errored }.evaluateDegrade

/-- R36: a good arrival with no sequence base is accepted. -/
def UplinkState.resynchronise (x : UplinkState) (seq : Byte) (rdi : Bool) (now : Nat) : UplinkState :=
  { x with
    continuity := .established, deadline := .running (x.deadlineFrom now), lastAccepted := some seq, errored := 0,
    window := pushOutcome x.window .good, rdi }.evaluateDegrade

/-- `n` MISSED outcomes pushed, one after another (R37, R44). -/
def pushMissed (n : Nat) (w : List ProbeOutcome) : List ProbeOutcome :=
  (List.replicate n ProbeOutcome.missed).foldl pushOutcome w

/-- R37: a good arrival in the acceptance window, with gap `g`. -/
def UplinkState.acceptInWindow (x : UplinkState) (seq : Byte) (rdi : Bool) (g : Nat) (now : Nat) : UplinkState :=
  { x with
    window := pushOutcome (pushMissed (g - 1 - x.errored) x.window) .good, errored := 0,
    deadline := .running (x.deadlineFrom now), rdi, lastAccepted := some seq }.evaluateDegrade

/-- R34 to R38: what an arrival makes of a probing uplink. A stale or ignored arrival leaves it as it is. -/
def UplinkState.arrive (x : UplinkState) (seq : Byte) (rdi bodyGood : Bool) (now : Nat) : UplinkState :=
  if !x.probing then x
  else if !bodyGood then (if x.continuity = .established then x.erroredArrival now else x)
  else if x.continuity = .established then
    match x.lastAccepted with
    | none => x.resynchronise seq rdi now
    | some last =>
      let g := (seq - last).toNat
      if 1 ≤ g ∧ g ≤ 127 then x.acceptInWindow seq rdi g now else x
  else x.resynchronise seq rdi now

/-- R48: the Probe Engine writes all of its changes to an uplink, queues the DEGRADE event, and hands the changes to
the Uplink Monitor as one change. -/
def State.handOver (u : Uplink) (x : UplinkState) (s : State) : State :=
  ((s.setUplink u x).raiseAll (degradeEvents u (s.uplink u) x)).settleUplink u s

/-- R34 to R38, R48: a PROBE-IN reaches the Probe Engine. -/
def State.probeArrival (r : Record) (s : State) : State :=
  s.handOver r.probeUplink
    ((s.uplink r.probeUplink).arrive r.probeSeq r.probeRdi r.bodyCheck s.clock.now)

/-! ### Deadline expiry and emission as events -/

/-- R40: the Probe Engine's changes at the deadline's expiry. -/
def UplinkState.loseContinuity (x : UplinkState) : UplinkState :=
  { x with
    continuity := .lost, deadline := .stopped, rdi := false, window := [], errored := 0, lastAccepted := none,
    degraded := false }

/-- CONTINUITY_DEADLINE_EXPIRY (R40). A suspended or stopped deadline does not expire. -/
def continuityDeadlineExpiry (u : Uplink) (s : State) : State :=
  match (s.uplink u).deadline with
  | .running t =>
    let s1 := s.advanceTo t
    s1.handOver u (s1.uplink u).loseContinuity
  | .stopped => s
  | .suspended => s

/-- PROBE_EMISSION (R32): the next emission time of the uplink's schedule has come. -/
def probeEmission (u : Uplink) (s : State) : State :=
  match (s.uplink u).nextEmission with
  | some t => (s.advanceTo t).emit u
  | none => s

def execContinuityDeadlineExpiry (u : Uplink) (s : State) : Result := whenRunning s (continuityDeadlineExpiry u)

def execProbeEmission (u : Uplink) (s : State) : Result := whenRunning s (probeEmission u)

end Sys2Proof.Machine
end

