-- ==== Sys2Proof/Machine/ForwardingPort.lean ====
section
/-! DEFINITION. The Forwarding Port Interface (chapter 8): the inward classes, the link state, the outward choice; SYNC_RECEIVED, LOOKUP_REQ_RECEIVED, PROBE_IN_RECEIVED, FAULTY_RECORD_RECEIVED,
SILENCE_EXPIRY, RECORD_TIME. -/

namespace Sys2Proof.Machine

/-! ### Link state (section 8.3) -/

/-- R140: the first valid arrival brings the link UP, before its record is routed. -/
def State.linkComesUp (kind : InKind) (s : State) : State :=
  ({ s with
      fwd := { s.fwd with linkUp := true },
      uplinks := Vector.ofFn fun u => (s.uplink u).resumeDeadline s.clock.now } : State).raise (.fwdLinkUp kind)

/-- R139, step 2: the silence timer restarted. -/
def State.restartSilence (s : State) : State :=
  { s with fwd := { s.fwd with
      silenceTimer := some { expiry := s.clock.now + ms s.fwd.silence, given := s.fwd.silence } } }

/-- R139, steps 1 and 2. -/
def State.acceptRecord (kind : InKind) (s : State) : State :=
  (if s.fwd.linkUp then s else s.linkComesUp kind).restartSilence

/-- R139, step 3: a valid record routed by its kind. -/
def State.routeRecord (kind : InKind) (r : Record) (s : State) : State :=
  match kind with
  | .sync => s
  | .lookupReq => s.laneArrival (Record.request r)
  | .probeIn => s.probeArrival r

/-- R138: a faulty record is discarded and counted. -/
def State.countHeaderError (s : State) : State :=
  { s with fwd := { s.fwd with headerErrors := saturating 255 s.fwd.headerErrors } }

/-- R138, R139: an arrival is classed by its bytes and acted on. DESIGN CHOICE, log entry 6: by its bytes, whatever the
row is called. -/
def recordArrival (r : Record) (s : State) : State :=
  match r.classify with
  | .valid kind => (s.acceptRecord kind).routeRecord kind r
  | .faulty _ => s.countHeaderError

/-- SILENCE_EXPIRY (R141): no valid record has arrived for the silence time. DEDUCED, log entry 14: the event reports
the time the timer was given. -/
def silenceExpiry (s : State) : State :=
  match s.fwd.silenceTimer with
  | some t =>
    let s1 := (s.advanceTo t.expiry).flushLanes
    ({ s1 with
        fwd := { s1.fwd with linkUp := false, silenceTimer := none, refusals := [], signals := [], probes := [] },
        uplinks := Vector.ofFn fun u => (s1.uplink u).suspendDeadline } : State).raise
      (.fwdLinkDown t.given s1.fwd.headerErrors)
  | none => s

/-! ### The outward direction (section 8.4) -/

/-- RECORD_TIME (R144): the first source that holds a record, in its order. Taking the held answer completes the
service (R125). While the link is DOWN every record time carries SYNC. -/
def recordTime (s : State) : State :=
  if !s.fwd.linkUp then s.send syncRecord
  else
    match s.fwd.refusals with
    | a :: rest => ({ s with fwd := { s.fwd with refusals := rest } } : State).send a.record
    | [] =>
      match s.fwd.signals with
      | x :: rest => ({ s with fwd := { s.fwd with signals := rest } } : State).send x.record
      | [] =>
        match s.fwd.probes with
        | x :: rest => ({ s with fwd := { s.fwd with probes := rest } } : State).send x.record
        | [] =>
          match s.lookup.serving with
          | some a => ({ s with lookup := { s.lookup with serving := none } } : State).send a.record
          | none => s.send syncRecord

def execProbeInReceived (r : Record) (s : State) : Result := whenRunning s (recordArrival r)

def execSyncReceived (r : Record) (s : State) : Result := whenRunning s (recordArrival r)

def execLookupReqReceived (r : Record) (s : State) : Result := whenRunning s (recordArrival r)

/-- A faulty record, or one cut short (R137). -/
def execFaultyRecordReceived (r : Option Record) (s : State) : Result :=
  whenRunning s (match r with
    | some r => recordArrival r
    | none => State.countHeaderError)

def execSilenceExpiry (s : State) : Result := whenRunning s silenceExpiry

def execRecordTime (s : State) : Result := whenRunning s recordTime

end Sys2Proof.Machine
end

