-- ==== Sys2Proof/Config.lean ====
section
/-! DEFINITION. What an implementation fixes, and the free values: what the manual leaves open and the part still produces. -/

namespace Sys2Proof

/-- The part's revision number as IDENTIFY reports it: 0 for the revision the manual describes (R168, section 11.3). -/
def Config.revision : Nat := 0

/-- FREE VALUE (log entry 11). Which of several duplicated members' slots an INVALID, DUPLICATE reply names: R68
says "the later of the two slots reported" and does not say which pair when a member list holds several. The
argument is the list of the uplink numbers in slot order; the result picks among the later slots. It has no body,
so nothing can be proved of it. -/
opaque Config.duplicatePick : List Nat → Nat

end Sys2Proof
end

