-- ==== Sys2Proof/Machine/Operands.lean ====
section
/-! DEFINITION. Every operand form of the control commands: identifiers and codes judged (R167, R171), settings clamped
(R8, R20, R49, R57, R123, R142, R154, R157), plan records validated (R68). -/

namespace Sys2Proof.Machine

/-- An identifier or code fault, with the slot of a plan member fault (R167). -/
structure OperandFault where
  code : FaultCode
  slot : Option Nat
deriving DecidableEq, Repr

/-- An operand judged: its value, or the fault it is refused with. -/
inductive Judged (α : Type) where
  | good (value : α)
  | bad (fault : OperandFault)
deriving DecidableEq, Repr

/-- An uplink number above 15 is INVALID, UPLINK (R171). -/
def judgeUplink (b : Byte) : Option Uplink := if h : b.toNat < 16 then some ⟨b.toNat, h⟩ else none

/-- A group number above 1,023 is INVALID, GROUP (R82). -/
def judgeGroup (g : Half) : Option Group := if h : g.toNat < 1024 then some ⟨g.toNat, h⟩ else none

/-- A lane number above 3 is INVALID, LANE (R123). -/
def judgeLane (b : Byte) : Option Lane := if h : b.toNat < 4 then some ⟨b.toNat, h⟩ else none

/-- A conduit number above 7 is INVALID, CONDUIT (R57). -/
def judgeConduit (b : Byte) : Option Conduit := if h : b.toNat < 8 then some ⟨b.toNat, h⟩ else none

/-- SET-UPLINK's conduit code: 0 to 7, FFh for none, else INVALID, CONDUIT (R56, R179). -/
def judgeMembership (b : Byte) : Option (Option Conduit) :=
  if b = 0xFF#8 then some none else (judgeConduit b).map some

/-- Admin mode codes (section 11.5). -/
def judgeAdmin (b : Byte) : Option AdminMode :=
  if b = 0#8 then some .active else if b = 1#8 then some .drain else if b = 2#8 then some .disabled else none

/-- Degrade policy codes (section 11.5). -/
def judgePolicy (b : Byte) : Option Policy :=
  if b = 0#8 then some .report else if b = 1#8 then some .fail else none

/-- A code of two values, 0 and 1: the lane enabled and urgent-immediate codes (section 11.5). -/
def judgeFlag (b : Byte) : Option Bool :=
  if b = 0#8 then some false else if b = 1#8 then some true else none

/-- A number held within bounds: the value at the nearest bound (R167). -/
def clampTo (lo hi n : Nat) : Nat := if n < lo then lo else if hi < n then hi else n

/-! ### SET-UPLINK -/

/-- R8, R20, R49: the settings of a SET-UPLINK after their clamps, in the order the rules take them: the phase against
the clamped interval, the clear threshold against the clamped set threshold. -/
def clampSettings (f : UplinkFields) (conduit : Option Conduit) (policy : Policy) : Settings :=
  let interval := clampTo 1 250 f.interval.toNat
  let multiplier := if f.multiplier.toNat = 0 then 0 else clampTo 2 15 f.multiplier.toNat
  let setThreshold := clampTo 0 32 f.setThreshold.toNat
  let clearThreshold := if setThreshold = 0 then 0 else clampTo 0 (setThreshold - 1) f.clearThreshold.toNat
  { conduit,
    lossQualify := clampTo 0 1000 f.lossQualify.toNat,
    lightQualify := clampTo 0 1000 f.lightQualify.toNat,
    holdOff := clampTo 0 10000 f.holdOff.toNat,
    waitToRestore := clampTo 0 3600 f.waitToRestore.toNat,
    interval,
    phase := clampTo 0 (interval - 1) f.phase.toNat,
    multiplier, setThreshold, clearThreshold, policy }

/-- R167: the CLAMPED flag of a SET-UPLINK. A clear threshold given with a set threshold of 0 raises none (R49;
DEDUCED, log entry 26). -/
def settingsClamped (f : UplinkFields) (x : Settings) : Bool :=
  x.lossQualify ≠ f.lossQualify.toNat || x.lightQualify ≠ f.lightQualify.toNat || x.holdOff ≠ f.holdOff.toNat
    || x.waitToRestore ≠ f.waitToRestore.toNat || x.interval ≠ f.interval.toNat || x.phase ≠ f.phase.toNat
    || x.multiplier ≠ f.multiplier.toNat || x.setThreshold ≠ f.setThreshold.toNat
    || (x.setThreshold ≠ 0 && x.clearThreshold ≠ f.clearThreshold.toNat)

/-- R170: the three checks in their order, then the clamps. -/
def judgeSettings (f : UplinkFields) : Judged (Uplink × Settings) :=
  match judgeUplink f.uplink with
  | none => .bad { code := .uplink, slot := none }
  | some u =>
    match judgeMembership f.conduit with
    | none => .bad { code := .conduit, slot := none }
    | some c =>
      match judgePolicy f.policy with
      | none => .bad { code := .mode, slot := none }
      | some p => .good (u, clampSettings f c p)

/-! ### WRITE-PLAN -/

/-- Fold codes (section 11.5). -/
def judgeFold (b : Byte) : Option Fold := (judgeFlag b).map fun x => if x then .fold else .direct

/-- Revert mode codes (section 11.5). -/
def judgeRevert (b : Byte) : Option RevertMode :=
  (judgeFlag b).map fun x => if x then .nonRevertive else .revertive

/-- Empty action codes (section 11.5). -/
def judgeAction (b : Byte) : Option EmptyAction := (judgeFlag b).map fun x => if x then .discard else .punt

/-- The slots whose uplink an earlier slot already names. -/
def laterSlots (us : List Nat) : List Nat :=
  (List.range us.length).filter fun j => (us.take j).contains (us.getD j 0)

/-- R68, check 5: the later of the two slots that name one uplink. Where several slots repeat an earlier one the
manual does not say which is reported: a free value picks (log entry 11). -/
def duplicateSlot (us : List Nat) : Option Nat :=
  match laterSlots us with
  | [] => none
  | [j] => some j
  | j :: k :: rest => some ((j :: k :: rest).getD (Config.duplicatePick us % (rest.length + 2)) j)

/-- R68's ten checks, in their order, with the record they admit. A fallback of FFFFh is absent (section 11.4). -/
def judgePlan (f : PlanFields) : Judged (Group × Plan) :=
  match judgeGroup f.group with
  | none => .bad { code := .group, slot := none }
  | some g =>
    if f.members.length > 8 then .bad { code := .count, slot := none }
    else
      match f.members.findIdx? (fun m => 15 < m.1.toNat) with
      | some k => .bad { code := .uplink, slot := some k }
      | none =>
        match f.members.findIdx? (fun m => m.2.toNat = 0 || 15 < m.2.toNat) with
        | some k => .bad { code := .weight, slot := some k }
        | none =>
          match duplicateSlot (f.members.map fun m => m.1.toNat) with
          | some k => .bad { code := .duplicate, slot := some k }
          | none =>
            match judgeFold f.fold, judgeRevert f.revert, judgeAction f.emptyAction with
            | some fd, some rv, some ea =>
              let ms := f.members.map fun m => { uplink := Fin.ofNat 16 m.1.toNat, weight := m.2.toNat : Member }
              if f.fallback = 0xFFFF#16 then
                .good (g, { members := ms, fold := fd, revert := rv, fallback := none, emptyAction := ea })
              else
                match judgeGroup f.fallback with
                | none => .bad { code := .fallback, slot := none }
                | some b =>
                  if b = g then .bad { code := .fallback, slot := none }
                  else .good (g, { members := ms, fold := fd, revert := rv, fallback := some b, emptyAction := ea })
            | _, _, _ => .bad { code := .mode, slot := none }

/-! ### READ-PLAN -/

/-- Bank codes of READ-PLAN, resolved against the active-bank identity (R73): A, B, ACTIVE, SHADOW. -/
def judgeBank (p : PlanStore) (b : Byte) : Option Bank :=
  if b = 0#8 then some .A
  else if b = 1#8 then some .B
  else if b = 2#8 then some p.active
  else if b = 3#8 then some p.shadow
  else none

/-! ### SET-LANE -/

/-- R123: the two marks after their clamps, the resume mark against the clamped pause mark. -/
def clampMarks (pauseMark resumeMark : Byte) : Nat × Nat :=
  let p := clampTo 2 16 pauseMark.toNat
  (p, clampTo 0 (p - 1) resumeMark.toNat)

end Sys2Proof.Machine
end

