-- ==== Sys2Proof/Machine/Sweep.lean ====
section
/-! DEFINITION. The Sweep Engine (chapter 6) with the Plan Store's part in a swap (R74, R77): PASS_BEGIN,
PASS_COMPLETE. -/

namespace Sys2Proof.Machine

/-! ### Choosing and beginning (sections 6.3 and 6.4) -/

/-- R99: the entry with the lowest group number at or above the cursor, else the lowest of all. -/
def SweepState.choose (w : SweepState) : Option (Group × DirtyFlags) :=
  match List.find? (fun e => decide (w.cursor ≤ e.1)) w.dirty with
  | some e => some e
  | none => List.head? w.dirty

/-- PASS_BEGIN (R100): with the engine IDLE and the dirty set not empty. DESIGN CHOICE, log entry 19: the sender
gives it. -/
def passBegin (s : State) : State :=
  match s.sweep.pass with
  | some _ => s
  | none =>
    match s.sweep.choose with
    | none => s
    | some (g, f) =>
      { s with sweep := { s.sweep with
          dirty := GroupMap.erase g s.sweep.dirty,
          pass := some { group := g, flags := f, snapshot := s.usableFlags } } }

/-! ### What a pass computes -/

/-- R103, R104: the group's record after an ordinary pass. -/
def ordinaryResult (p : Plan) (x : GroupBuckets) (rebalance : Bool) (snapshot : UplinkSet) : GroupBuckets :=
  if p.planned then
    { x.setArray x.selector (passArray p rebalance snapshot (x.array x.selector)) with
      evacuated := passEvacuated p snapshot }
  else x

/-- R107 to R111: the group's record after a replan pass from the plan it is served from to the other bank's. -/
def replanResult (old new : Plan) (x : GroupBuckets) (rebalance : Bool) (snapshot : UplinkSet) : GroupBuckets :=
  let bank := x.selector.other
  if !new.planned then
    { x.setArray bank BucketArray.cleared with selector := bank, evacuated := false }
  else
    let start := if new.members = old.members then x.array x.selector else homeArray new
    { x.setArray bank (passArray new rebalance snapshot start) with
      selector := bank, evacuated := passEvacuated new snapshot, unplannedHit := false }

/-- The plan a pass is applied to (R100). -/
def State.passPlan (s : State) (p : PassRecord) : Plan :=
  if p.flags.replan then s.planIn (s.group p.group).selector.other p.group else s.servedPlan p.group

/-- The group's record that a pass writes at its completion (R103 to R111). -/
def State.passResult (s : State) (p : PassRecord) : GroupBuckets :=
  if p.flags.replan then
    replanResult (s.servedPlan p.group) (s.passPlan p) (s.group p.group) p.flags.rebalance p.snapshot
  else ordinaryResult (s.passPlan p) (s.group p.group) p.flags.rebalance p.snapshot

/-- R106: the event of a change of the evacuated flag. A pass that leaves the group unplanned raises none. -/
def evacuationEvents (g : Group) (replan : Bool) (plan : Plan) (snapshot : UplinkSet) (old new : GroupBuckets) :
    List Event :=
  if !plan.planned then []
  else if !old.evacuated && new.evacuated then [.groupEvacuated g replan new.selector]
  else if old.evacuated && !new.evacuated then
    [.groupRecovered g replan new.selector (plan.usableSet snapshot).length]
  else []

/-! ### Completion (R105) -/

/-- R77: the exchange of the banks that completes a swap. -/
def PlanStore.exchange (p : PlanStore) : PlanStore := { p with active := p.shadow, swapInFlight := false }

/-- R105, step 4; R112: a replan completion handed to the Plan Store, and whether it completes the swap. -/
def State.handReplan (replan : Bool) (s : State) : State × Bool :=
  if replan && s.plans.swapInFlight && s.replansRemaining = 0 then
    ({ s with plans := s.plans.exchange }, true)
  else (s, false)

/-- R105, steps 2, 3 and 5: the cursor past the group, the pass counted, the engine IDLE. -/
def SweepState.finish (w : SweepState) (g : Group) : SweepState :=
  { w with
    cursor := g + 1, pass := none,
    episode := w.episode.map fun e => { e with passes := saturating 4095 e.passes } }

/-- R114: a completion that leaves the dirty set empty closes the episode and queues SETTLED. -/
def State.closeEpisode (s : State) : State × List Event :=
  if s.sweep.dirty.isEmpty then
    match s.sweep.episode with
    | some e =>
      ({ s with sweep := { s.sweep with episode := none } }, [.settled e.startSeconds e.startMicros e.passes])
    | none => (s, [])
  else (s, [])

/-- R105: the completion of a pass, in its six steps. -/
def State.completePass (p : PassRecord) (s : State) : State :=
  let old := s.group p.group
  let new := s.passResult p
  let plan := s.passPlan p
  let s1 := s.setGroup p.group new
  let s2 : State := { s1 with sweep := s1.sweep.finish p.group }
  let handed := s2.handReplan p.flags.replan
  let closed := handed.1.closeEpisode
  closed.1.raiseAll
    (evacuationEvents p.group p.flags.replan plan p.snapshot old new
      ++ (if handed.2 then [.swapDone handed.1.plans.active] else []) ++ closed.2)

def execPassBegin (s : State) : Result := .next (if s.resetHeld then s else passBegin s)

end Sys2Proof.Machine
end

