-- ==== Sys2Proof/Machine/LightFilter.lean ====
section
/-! DEFINITION. The Loss-of-Light Filter (section 1.2): LOS_ASSERT, LOS_DEASSERT, LOSS_QUALIFY_EXPIRY,
LIGHT_QUALIFY_EXPIRY. -/

namespace Sys2Proof.Machine

/-- R2: raw LOS asserts on a monitored uplink. -/
def UplinkState.losAsserted (x : UplinkState) (now : Nat) : UplinkState :=
  let y := { x with rawLos := true, lightTimer := none }
  if x.qualLos then y
  else if x.settings.lossQualify = 0 then { y with qualLos := true }
  else { y with lossTimer := some (now + x.settings.lossQualify) }

/-- R3: raw LOS deasserts on a monitored uplink. -/
def UplinkState.losDeasserted (x : UplinkState) (now : Nat) : UplinkState :=
  let y := { x with rawLos := false, lossTimer := none }
  if !x.qualLos then y
  else if x.settings.lightQualify = 0 then { y with qualLos := false }
  else { y with lightTimer := some (now + ms x.settings.lightQualify) }

/-- The level of a loss-of-light input set. -/
def State.drivePin (u : Uplink) (level : Bool) (s : State) : State :=
  s.setUplink u { s.uplink u with losPin := level }

/-- R1: an edge at the filter. While the uplink is DISABLED it updates raw LOS and does nothing further; a level
that raw LOS already has is no edge. While the RESET input is asserted the inputs are not acted on (R174). -/
def losEdge (u : Uplink) (level : Bool) (s : State) : State :=
  let s1 := s.drivePin u level
  if s.resetHeld then s1
  else if (s.uplink u).rawLos = level then s1
  else if !(s.uplink u).monitored then s1.setUplink u { s1.uplink u with rawLos := level }
  else
    (s1.setUplink u
      (if level then (s1.uplink u).losAsserted s.clock.now else (s1.uplink u).losDeasserted s.clock.now)).settleUplink
        u s

/-- LOSS_QUALIFY_EXPIRY (R4). -/
def lossQualifyExpiry (u : Uplink) (s : State) : State :=
  match (s.uplink u).lossTimer with
  | some t =>
    let s1 := s.advanceTo t
    (s1.setUplink u { s1.uplink u with qualLos := true, lossTimer := none }).settleUplink u s1
  | none => s

/-- LIGHT_QUALIFY_EXPIRY (R5). -/
def lightQualifyExpiry (u : Uplink) (s : State) : State :=
  match (s.uplink u).lightTimer with
  | some t =>
    let s1 := s.advanceTo t
    (s1.setUplink u { s1.uplink u with qualLos := false, lightTimer := none }).settleUplink u s1
  | none => s

def execLosAssert (u : Uplink) (s : State) : Result := .next (losEdge u true s)

def execLosDeassert (u : Uplink) (s : State) : Result := .next (losEdge u false s)

def execLossQualifyExpiry (u : Uplink) (s : State) : Result := whenRunning s (lossQualifyExpiry u)

def execLightQualifyExpiry (u : Uplink) (s : State) : Result := whenRunning s (lightQualifyExpiry u)

end Sys2Proof.Machine
end

