-- ==== Sys2Proof/Machine/UplinkCommands.lean ====
section
/-! DEFINITION. What the uplink and conduit commands do and reply: SET-UPLINK, GET-UPLINK, SET-ADMIN, FORCE-RESTORE,
CLEAR-LATCH, SET-CONDUIT (sections 1.3, 1.5, 1.7, 1.8, 2.9, 3.4, 10.4.2). -/

namespace Sys2Proof.Machine

/-- A reply refused with a fault code and no slot. -/
def refuse (c : FaultCode) : ReplyBody := .invalid c none

/-! ### SET-UPLINK (R170) -/

/-- The eleven settings in the order of SET-UPLINK's payload (R170, R179). -/
def Settings.bytes (x : Settings) : List Byte :=
  [conduitCode x.conduit] ++ be16 x.lossQualify ++ be16 x.lightQualify ++ be16 x.holdOff ++ be16 x.waitToRestore
    ++ [byte x.interval, byte x.phase, byte x.multiplier, byte x.setThreshold, byte x.clearThreshold,
        x.policy.code]

/-- R49, effect 1: probing starts or ends when the multiplier crosses 0 on a monitored uplink (R29, R30). `x` holds
the new settings, `old` the uplink before the command. -/
def UplinkState.crossMultiplier (old x : UplinkState) (now : Nat) (linkUp : Bool) : UplinkState :=
  if !old.probing && x.probing then x.beginByMultiplier now linkUp
  else if old.probing && !x.probing then x.endProbing
  else x

/-- R31, R49: the probe clock starts or restarts in this SET-UPLINK. -/
def clockStarts (old x : UplinkState) : Bool :=
  x.probing &&
    (!old.probing || old.settings.interval ≠ x.settings.interval || old.settings.phase ≠ x.settings.phase)

/-- R49, effects 1 to 3 on the uplink: the multiplier's crossing, the clock's restart, the degraded flag's
re-evaluation when a threshold of a probing uplink changed (R46). -/
def UplinkState.applySettings (old : UplinkState) (new : Settings) (now : Nat) (linkUp : Bool) : UplinkState :=
  let x1 := old.crossMultiplier { old with settings := new } now linkUp
  let x2 := if clockStarts old x1 then x1.restartClock now else x1
  if x2.probing && (old.settings.setThreshold ≠ new.setThreshold || old.settings.clearThreshold ≠ new.clearThreshold)
  then x2.evaluateDegrade
  else x2

/-- SET-UPLINK (R170, R25, R49, R56): every setting written, then the effects in one step. A clock that starts with a
phase of 0 emits in the same step (R31). -/
def doSetUplink (f : UplinkFields) (s : State) : State × ReplyBody :=
  match judgeSettings f with
  | .bad e => (s, .invalid e.code e.slot)
  | .good (u, new) =>
    let old := s.uplink u
    let x := old.applySettings new s.clock.now s.fwd.linkUp
    let s1 := s.handOver u x
    let s2 := if clockStarts old x then s1.emitAtStart u else s1
    (s2, .ok (settingsClamped f new) (new.bytes ++ [(s2.uplink u).health.code, flagByte (s2.uplink u).usable]))

/-! ### GET-UPLINK (R26, R51, R63, R171) -/

/-- A presence byte and the value (R179). -/
def presenceBytes : Option Byte → List Byte
  | some b => [1#8, b]
  | none => [0#8, 0#8]

/-- The time remaining of the hold-off or wait-to-restore timer, whichever runs (R26). -/
def UplinkState.judgementRemaining (x : UplinkState) (now : Nat) : Nat :=
  match x.holdOffTimer with
  | some t => remainingMs now (some t)
  | none => remainingMs now x.restoreTimer

/-- The items of R26. DEDUCED, log entry 12: the widths of R179's list. -/
def UplinkState.healthItems (x : UplinkState) (now : Nat) : List Byte :=
  [x.admin.code, x.health.code, flagByte x.rawLos, flagByte x.qualLos, x.qualifyCode, x.defects.mask, x.latches.mask]
    ++ be16 x.settings.lossQualify ++ be16 x.settings.lightQualify ++ be16 x.settings.holdOff
    ++ be16 x.settings.waitToRestore ++ [x.settings.policy.code] ++ be32 (x.judgementRemaining now)

/-- The deadline of R51: its state code and its time remaining (R179). -/
def Deadline.bytes (d : Deadline) (now : Nat) : List Byte :=
  d.code :: be32 (match d with
    | .running t => remainingMs now (some t)
    | .stopped => 0
    | .suspended => 0)

/-- The items of R51. DEDUCED, log entry 27: the window's length is the count byte of its list. -/
def UplinkState.probeItems (x : UplinkState) (now : Nat) : List Byte :=
  [flagByte x.probing, byte x.settings.interval, byte x.settings.phase, byte x.settings.multiplier,
   byte x.settings.setThreshold, byte x.settings.clearThreshold, x.outSeq]
    ++ presenceBytes x.lastAccepted ++ [byte x.errored, x.continuity.code] ++ x.deadline.bytes now ++ [flagByte x.rdi]
    ++ (byte x.window.length :: x.window.map ProbeOutcome.code) ++ [byte (nonGood x.window), flagByte x.degraded]

/-- The items of R63. -/
def UplinkState.usabilityItems (x : UplinkState) : List Byte :=
  [conduitCode x.settings.conduit, flagByte x.shunned, flagByte x.usable, x.conditionMask]

/-- GET-UPLINK: one reading, no change. -/
def doGetUplink (b : Byte) (s : State) : State × ReplyBody :=
  match judgeUplink b with
  | none => (s, refuse .uplink)
  | some u =>
    let x := s.uplink u
    (s, .ok false (x.healthItems s.clock.now ++ x.probeItems s.clock.now ++ x.usabilityItems))

/-! ### SET-ADMIN (R9 to R11) -/

/-- R7, R9: a monitored uplink set to DISABLED. -/
def UplinkState.disable (x : UplinkState) : UplinkState :=
  { (if x.probing then x.endProbing else x) with
    admin := .disabled, health := .idle, holdOffTimer := none, restoreTimer := none, qualLos := false,
    lossTimer := none, lightTimer := none }

/-- R10, steps 1 to 3 and the entry into START: a DISABLED uplink enabled. -/
def UplinkState.enable (x : UplinkState) (m : AdminMode) (now : Nat) : UplinkState :=
  let y := { x with admin := m, qualLos := x.rawLos, health := .start }
  if x.settings.multiplier ≠ 0 then y.beginFromIdle now else y

/-- R10: the whole enabling step. The START entry check is made on the indications as they then stand. -/
def State.enableUplink (u : Uplink) (m : AdminMode) (s : State) : State :=
  let x := (s.uplink u).latch ((s.uplink u).enable m s.clock.now)
  let s1 := s.settleHealth u (x.startCheck u s.clock.now) s
  if (s1.uplink u).probing then s1.emitAtStart u else s1

/-- SET-ADMIN: by the old and the new mode (section 1.3). -/
def State.setAdmin (u : Uplink) (m : AdminMode) (s : State) : State :=
  let x := s.uplink u
  if x.admin = m then s
  else if m = .disabled then s.settleHealth u (x.disable, []) s
  else if x.admin = .disabled then s.enableUplink u m
  else s.settleHealth u ({ x with admin := m }, []) s

/-- SET-ADMIN with its checks and reply (R171). -/
def doSetAdmin (b mode : Byte) (s : State) : State × ReplyBody :=
  match judgeUplink b with
  | none => (s, refuse .uplink)
  | some u =>
    match judgeAdmin mode with
    | none => (s, refuse .mode)
    | some m =>
      let s1 := s.setAdmin u m
      (s1, .ok false [(s1.uplink u).admin.code, (s1.uplink u).health.code])

/-! ### FORCE-RESTORE, CLEAR-LATCH, SET-CONDUIT -/

/-- FORCE-RESTORE (R19). -/
def doForceRestore (b : Byte) (s : State) : State × ReplyBody :=
  match judgeUplink b with
  | none => (s, refuse .uplink)
  | some u =>
    if (s.uplink u).health = .restoring then
      (s.settleHealth u ({ s.uplink u with restoreTimer := none }.goUp u .forced) s, .ok false [])
    else (s, .wrongState (s.uplink u).health)

/-- CLEAR-LATCH (R23). -/
def doClearLatch (b : Byte) (s : State) : State × ReplyBody :=
  match judgeUplink b with
  | none => (s, refuse .uplink)
  | some u =>
    let x := (s.uplink u).clearLatches
    (s.setUplink u x, .ok false [x.latches.mask])

/-- SET-CONDUIT (R57). -/
def doSetConduit (b trip : Byte) (s : State) : State × ReplyBody :=
  match judgeConduit b with
  | none => (s, refuse .conduit)
  | some c =>
    let t := clampTo 0 8 trip.toNat
    let s1 := State.evaluateUsability [c] [] (s.setConduit c { s.conduit c with tripCount := t }) s
    (s1, .ok (decide (t ≠ trip.toNat))
      ([byte t] ++ setBytes (s1.members c) ++ [byte (s1.downCount c), flagByte (s1.conduit c).tripped]
        ++ setBytes (s1.shunnedMembers c)))

end Sys2Proof.Machine
end

