-- ==== Sys2Proof/Machine/PlanCommands.lean ====
section
/-! DEFINITION. What the plan, swap and group commands do and reply: WRITE-PLAN, CLEAR-PLAN, COPY-ACTIVE, READ-PLAN,
SWAP, READ-GROUP's reading, REBALANCE (chapters 4 and 6). -/

namespace Sys2Proof.Machine

/-- A record written into the shadow bank (R67, R70). -/
def State.writeShadow (g : Group) (p : Plan) (s : State) : State :=
  { s with plans := s.plans.setBank s.plans.shadow (GroupMap.put Plan.default g p (s.plans.bank s.plans.shadow)) }

/-- WRITE-PLAN (R67 to R69, R72): BUSY is judged before any check. -/
def doWritePlan (f : PlanFields) (s : State) : State × ReplyBody :=
  if s.plans.swapInFlight then (s, .busy)
  else
    match judgePlan f with
    | .bad e => (s, .invalid e.code e.slot)
    | .good (g, p) => (s.writeShadow g p, .ok false (be16 g.val ++ [s.plans.shadow.code]))

/-- CLEAR-PLAN (R70, R72). -/
def doClearPlan (group : Half) (s : State) : State × ReplyBody :=
  if s.plans.swapInFlight then (s, .busy)
  else
    match judgeGroup group with
    | none => (s, refuse .group)
    | some g => (s.writeShadow g Plan.default, .ok false (be16 g.val ++ [s.plans.shadow.code]))

/-- R71: how many shadow records a copy changes. -/
def State.copyCount (s : State) : Nat :=
  ((List.finRange 1024).filter fun g => s.planIn s.plans.active g ≠ s.planIn s.plans.shadow g).length

/-- COPY-ACTIVE (R71, R72). -/
def doCopyActive (s : State) : State × ReplyBody :=
  if s.plans.swapInFlight then (s, .busy)
  else
    ({ s with plans := s.plans.setBank s.plans.shadow (s.plans.bank s.plans.active) }, .ok false (be16 s.copyCount))

/-- A member as sent: uplink and weight (section 11.4). -/
def Member.bytes (m : Member) : List Byte := [byte m.uplink.val, byte m.weight]

/-- A fallback group as sent; FFFFh absent (section 11.4). -/
def fallbackBytes : Option Group → List Byte
  | some g => be16 g.val
  | none => [0xFF#8, 0xFF#8]

/-- A plan record as sent (section 11.4). -/
def Plan.bytes (p : Plan) (g : Group) : List Byte :=
  be16 g.val ++ [byte p.members.length, p.fold.code, p.revert.code] ++ fallbackBytes p.fallback
    ++ [p.emptyAction.code] ++ p.members.flatMap Member.bytes

/-- READ-PLAN (R73). -/
def doReadPlan (group : Half) (bank : Byte) (s : State) : State × ReplyBody :=
  match judgeGroup group with
  | none => (s, refuse .group)
  | some g =>
    match judgeBank s.plans bank with
    | none => (s, refuse .mode)
    | some b => (s, .ok false ([b.code, flagByte (b = s.plans.active)] ++ (s.planIn b g).bytes g))

/-- SWAP (R75, R76). DEDUCED, log entry 12: the count is two bytes. -/
def doSwap (s : State) : State × ReplyBody :=
  if s.plans.swapInFlight then (s, .busy)
  else
    let s1 := State.deliver (fun _ => true) { replan := true, rebalance := false }
      { s with plans := { s.plans with swapInFlight := true } }
    (s1, .ok false ([s.plans.shadow.code] ++ be16 1024))

/-- The bucket byte of READ-GROUP: home in bits 6-4, current in bits 2-0; 80h cleared (section 11.3). -/
def Bucket.byte (b : Bucket) : Byte :=
  match b.home, b.current with
  | some h, some c => Sys2Proof.byte (16 * h.val + c.val)
  | _, _ => 0x80#8

/-- The dirty byte of READ-GROUP: bit 0 present, bit 1 replan, bit 2 rebalance (section 11.3). -/
def dirtyByte : Option DirtyFlags → Byte
  | some f => byte (1 + 2 * f.replan.toNat + 4 * f.rebalance.toNat)
  | none => 0#8

/-- READ-GROUP's reply items (R117, section 11.3). -/
def State.groupItems (s : State) (g : Group) : List Byte :=
  let x := s.group g
  [x.selector.code, flagByte x.evacuated, flagByte x.unplannedHit, dirtyByte (GroupMap.find s.sweep.dirty g)]
    ++ (x.array x.selector).toList.map Bucket.byte

/-- READ-GROUP on a group that is not under a pass (R102, R117). -/
def State.readGroupReply (s : State) (g : Group) : ReplyBody := .ok false (s.groupItems g)

/-- A group is under a pass (section 6.1). -/
def State.underPass (s : State) (g : Group) : Bool :=
  match s.sweep.pass with
  | some p => decide (p.group = g)
  | none => false

/-- REBALANCE (R113): one named group, or every group planned in the bank it is served from. -/
def doRebalance (t : RebalanceTarget) (s : State) : State × ReplyBody :=
  match t with
  | .group n =>
    match judgeGroup (n.zeroExtend 16) with
    | none => (s, refuse .group)
    | some g =>
      (s.deliver (fun x => x = g) { replan := false, rebalance := true },
       .ok false [flagByte (s.servedPlan g).planned])
  | .all =>
    (s.deliver (fun g => (s.servedPlan g).planned) { replan := false, rebalance := true },
     .ok false (be16 ((List.finRange 1024).filter fun g => (s.servedPlan g).planned).length))

end Sys2Proof.Machine
end

