-- ==== Sys2Proof/Machine/PortCommands.lean ====
section
/-! DEFINITION. What the lane, link, alert, event, time and status commands do and reply: SET-LANE (R123), SET-FWDLINK
(R142), SET-ALERT (R157), FETCH-EVENTS (R154), SET-TIME (R149), IDENTIFY (R168), GET-STATUS (R169). -/

namespace Sys2Proof.Machine

/-- SET-LANE's reply items: the lane as it stands after the command (R123). -/
def LaneState.items (x : LaneState) : List Byte :=
  [flagByte x.enabled, byte x.pauseMark, byte x.resumeMark, byte x.queue.length, flagByte x.paused,
   flagByte x.overrun]

/-- R119, R123: both conditions evaluated after the marks are written. A flag found clear can only set, and one
found set can only clear, since the resume mark lies below the pause mark. -/
def State.evaluateMarks (l : Lane) (s : State) : State :=
  if (s.lane l).paused then s.evaluateResume l else s.evaluatePause l

/-- SET-LANE (R123). -/
def doSetLane (lane enabled pauseMark resumeMark : Byte) (s : State) : State × ReplyBody :=
  match judgeLane lane with
  | none => (s, refuse .lane)
  | some l =>
    match judgeFlag enabled with
    | none => (s, refuse .mode)
    | some e =>
      let marks := clampMarks pauseMark resumeMark
      let s1 := (s.setLane l { s.lane l with enabled := e, pauseMark := marks.1, resumeMark := marks.2 }).evaluateMarks l
      (s1, .ok (marks.1 ≠ pauseMark.toNat || marks.2 ≠ resumeMark.toNat) (s1.lane l).items)

/-- SET-FWDLINK (R142). A running silence timer keeps the expiry it was given. -/
def doSetFwdlink (silence : Byte) (s : State) : State × ReplyBody :=
  let t := clampTo 1 100 silence.toNat
  ({ s with fwd := { s.fwd with silence := t } },
   .ok (decide (t ≠ silence.toNat)) [byte t, flagByte s.fwd.linkUp, byte s.fwd.headerErrors])

/-- SET-ALERT's reply items (R157). -/
def EventQueue.alertItems (q : EventQueue) : List Byte :=
  [byte q.trigger] ++ be16 q.linger ++ [flagByte q.urgentImmediate, byte q.records.length, byte q.urgentCount,
    flagByte q.alert]

/-- SET-ALERT (R157). -/
def doSetAlert (trigger : Byte) (linger : Half) (urgent : Byte) (s : State) : State × ReplyBody :=
  match judgeFlag urgent with
  | none => (s, refuse .mode)
  | some b =>
    let t := clampTo 1 64 trigger.toNat
    let l := clampTo 0 1000 linger.toNat
    let q := s.events.setAlert t l b s.clock.now
    ({ s with events := q }, .ok (t ≠ trigger.toNat || l ≠ linger.toNat) q.alertItems)

/-- FETCH-EVENTS (R154, R172). -/
def doFetchEvents (count : Byte) (s : State) : State × ReplyBody :=
  let n := clampTo 1 16 count.toNat
  let taken := s.events.records.take n
  ({ s with events := s.events.fetch n s.clock.now },
   .ok (decide (n ≠ count.toNat))
     ([byte taken.length, byte (s.events.records.drop n).length, flagByte s.events.lost]
       ++ taken.flatMap EventRecord.bytes))

/-- SET-TIME (R149): the reply reports the time base as loaded. -/
def doSetTime (seconds : Word) (s : State) : State × ReplyBody :=
  ({ s with clock := s.clock.load seconds }, .ok false (Word.bytes seconds ++ be32 0))

/-- IDENTIFY's items (R168, section 11.3). -/
def identifyItems : List Byte :=
  be16 0x0016 ++ [byte Config.revision, byte 16, byte 8] ++ be16 1024 ++ [byte 2, byte 8, byte 64, byte 4, byte 16,
    byte 64, byte 8] ++ be16 512

/-- IDENTIFY (R168): no change. -/
def doIdentify (s : State) : State × ReplyBody := (s, .ok false identifyItems)

/-- GET-STATUS's items (R169, section 11.3). -/
def State.statusItems (s : State) : List Byte :=
  Word.bytes s.clock.seconds ++ be32 s.clock.micros ++ [s.plans.active.code, flagByte s.plans.swapInFlight]
    ++ be16 s.replansRemaining ++ be16 s.sweep.dirty.length
    ++ [flagByte s.fwd.linkUp, byte s.fwd.headerErrors, byte s.events.records.length, flagByte s.events.lost,
        flagByte s.events.alert, byte s.control.frameErrors, byte s.control.queue.length]

/-- GET-STATUS (R169): both error counts are reported as held and cleared in the same step. -/
def doGetStatus (s : State) : State × ReplyBody :=
  ({ s with
      fwd := { s.fwd with headerErrors := 0 }, control := { s.control with frameErrors := 0 } },
   .ok false s.statusItems)

end Sys2Proof.Machine
end

