-- ==== Sys2Proof/Machine/Reset.lean ====
section
/-! DEFINITION. Reset (R174 and the blocks' own reset rules); RESET_INPUT_ASSERT, RESET_INPUT_RELEASE. -/

namespace Sys2Proof.Machine

/-- R24, R50, R62: an uplink brought to its reset values. Its input is not the part's; raw LOS is not reset, and takes
the level of the input from the moment reset ends, which is at once when nothing holds the part. -/
def UplinkState.toReset (x : UplinkState) (held : Bool) : UplinkState :=
  UplinkState.reset x.losPin (if held then x.rawLos else x.losPin)

/-- R174: every block brought to its reset values in one step. `held` says whether the RESET input stays asserted.
The model's own queue of waiting commands is not the part's and stays. -/
def State.toReset (held : Bool) (s : State) : State :=
  { clock := Clock.reset,
    uplinks := Vector.ofFn fun u => (s.uplink u).toReset held,
    conduits := Vector.replicate 8 ConduitState.reset,
    plans := PlanStore.reset,
    buckets := [],
    sweep := SweepState.reset,
    lookup := LookupState.reset,
    fwd := FwdState.reset s.fwd.ftx,
    events := EventQueue.reset,
    control := ControlState.reset s.control.ctx,
    resetHeld := held,
    pending := s.pending }

/-- The release of the RESET input: raw LOS follows each input, the time base counts from 0 (R174). -/
def State.releaseReset (s : State) : State :=
  { s with
    uplinks := Vector.ofFn fun u => { s.uplink u with rawLos := (s.uplink u).losPin },
    resetHeld := false }

/-- R173, last paragraph: a RESET command that was taken before the RESET input has its reply sent, and then both resets
fall together. Any other reply that waits is not sent (R175). -/
def State.finishResetReply (s : State) : State :=
  match s.control.inHand, s.control.replies with
  | some { tag := _, command := .reset }, r :: _ => { s with control := { s.control with ctx := some r } }
  | _, _ => s

/-- RESET_INPUT_ASSERT (R174). DEDUCED, log entry 28: the reply of a RESET command in hand is sent in this step. -/
def execResetInputAssert (s : State) : Result := .next (s.finishResetReply.toReset true)

def execResetInputRelease (s : State) : Result := .next (if s.resetHeld then s.releaseReset else s)

end Sys2Proof.Machine
end

