-- ==== Sys2Proof/Machine/ControlPort.lean ====
section
/-! DEFINITION. The Control Port Interface (chapter 10): the taking of commands (R165), arrival and the command queue
(R163, R164), the receiver (R161, R162), replies sent (R166) and the reset that follows RESET's (R173), READ-GROUP held
for a pass (R102); CONTROL_BYTE_TAKEN, FRAME_RECEIVED, REPLY_SENT, PASS_COMPLETE and the control commands. -/

namespace Sys2Proof.Machine

/-! ### Carrying a command out (R165) -/

/-- A command's effect and its reply joined to the reply list. -/
def finish (type tag : Byte) (r : State × ReplyBody) : State := r.1.reply type tag r.2

/-- A command that stays in hand: a READ-GROUP held for a pass (R102), or a RESET whose reply is being sent (R173). -/
def State.hold (tag : Byte) (c : Command) (s : State) : State :=
  { s with control := { s.control with inHand := some { tag, command := c } } }

/-- READ-GROUP when taken (R102, R117): answered at once, or held while its group is under a pass. -/
def takeReadGroup (tag : Byte) (group : Half) (s : State) : State :=
  match judgeGroup group with
  | none => s.reply (Command.readGroup group).typeCode tag (refuse .group)
  | some g =>
    if s.underPass g then s.hold tag (.readGroup group)
    else s.reply (Command.readGroup group).typeCode tag (s.readGroupReply g)

/-- RESET when taken (R173): answered OK; reset follows the sending of that reply. -/
def takeReset (tag : Byte) (s : State) : State :=
  (s.hold tag .reset).reply Command.reset.typeCode tag (.ok false [])

/-- R165: a command takes effect when it is taken, and its reply is produced from the result. -/
def takeCommand (tag : Byte) (c : Command) (s : State) : State :=
  match c with
  | .identify => finish c.typeCode tag (doIdentify s)
  | .getStatus => finish c.typeCode tag (doGetStatus s)
  | .setTime t => finish c.typeCode tag (doSetTime t s)
  | .setUplink f => finish c.typeCode tag (doSetUplink f s)
  | .getUplink u => finish c.typeCode tag (doGetUplink u s)
  | .setAdmin u m => finish c.typeCode tag (doSetAdmin u m s)
  | .forceRestore u => finish c.typeCode tag (doForceRestore u s)
  | .clearLatch u => finish c.typeCode tag (doClearLatch u s)
  | .setConduit d t => finish c.typeCode tag (doSetConduit d t s)
  | .writePlan f => finish c.typeCode tag (doWritePlan f s)
  | .clearPlan g => finish c.typeCode tag (doClearPlan g s)
  | .copyActive => finish c.typeCode tag (doCopyActive s)
  | .readPlan g b => finish c.typeCode tag (doReadPlan g b s)
  | .swap => finish c.typeCode tag (doSwap s)
  | .readGroup g => takeReadGroup tag g s
  | .rebalance t => finish c.typeCode tag (doRebalance t s)
  | .setLane l e p r => finish c.typeCode tag (doSetLane l e p r s)
  | .setFwdlink t => finish c.typeCode tag (doSetFwdlink t s)
  | .setAlert t l u => finish c.typeCode tag (doSetAlert t l u s)
  | .fetchEvents n => finish c.typeCode tag (doFetchEvents n s)
  | .reset => takeReset tag s

/-- R165: no command in hand, and the reply list empty. -/
def State.mayTake (s : State) : Bool := s.control.inHand.isNone && s.control.replies.isEmpty

/-- R165: the head of the queue taken, when one may be and there is one. -/
def State.takeNext (s : State) : State :=
  if s.mayTake then
    match s.control.queue with
    | [] => s
    | q :: rest => takeCommand q.tag q.command { s with control := { s.control with queue := rest } }
  else s

/-! ### Arrival (R163, R164) -/

/-- The most commands that wait (R164). -/
def queueCapacity : Nat := 8

/-- R164, R165: a command offered to the queue: answered FULL when 8 wait; else appended, and the head of the queue is
taken if it may be. DEDUCED, log entry 4: a taking has no row of its own. -/
def receiveCommand (tag : Byte) (c : Command) (s : State) : State :=
  if s.control.queue.length < queueCapacity then
    ({ s with control := { s.control with queue := s.control.queue ++ [{ tag, command := c }] } } : State).takeNext
  else s.reply c.typeCode tag .full

/-- R163: a frame received whole: its type, then its payload, then the queue. -/
def receiveWhole (type tag : Byte) (payload : List Byte) (s : State) : State :=
  match parseCommand type payload with
  | .unknown => s.reply type tag .unknown
  | .malformed => s.reply type tag .malformed
  | .command c => receiveCommand tag c s

/-! ### The receiver (R161, R162) -/

/-- The receiver hunts, with no frame in progress. -/
def State.hunt (s : State) : State := { s with control := { s.control with rx := .hunting, frame := [] } }

/-- R162: a frame discarded: the receiver hunts, and the frame error count rises. -/
def State.discardFrame (s : State) : State :=
  { s with control := { s.control with
      rx := .hunting, frame := [], frameErrors := saturating 255 s.control.frameErrors } }

/-- The receiver's state and the frame in progress written. -/
def State.keep (rx : RxState) (frame : List Byte) (s : State) : State :=
  { s with control := { s.control with rx, frame } }

/-- The length a frame in progress gives: its first two bytes. -/
def frameLength (frame : List Byte) : Nat :=
  match frame with
  | hi :: lo :: _ => (half hi lo).toNat
  | _ => 0

/-- R162, R163: a frame judged at its second check byte, from all the bytes since the start byte: length (2), type,
tag, payload, check (2). -/
def judgeFrame (frame : List Byte) (s : State) : State :=
  let covered := frame.take (frameLength frame + 2)
  match frame.drop (frameLength frame + 2) with
  | [hi, lo] =>
    if byteSum covered + half hi lo = 0#16 then
      match covered.drop 2 with
      | type :: tag :: payload => receiveWhole type tag payload s.hunt
      | _ => s.discardFrame
    else s.discardFrame
  | _ => s.discardFrame

/-- R161: the receiver takes one byte. -/
def takeByte (b : Byte) (s : State) : State :=
  let frame := s.control.frame ++ [b]
  match s.control.rx with
  | .hunting => if b = startByte then s.keep .length [] else s
  | .length =>
    if frame.length < 2 then s.keep .length frame
    else if 2 ≤ frameLength frame ∧ frameLength frame ≤ 514 then s.keep .body frame
    else s.discardFrame
  | .body => s.keep (if frame.length < frameLength frame + 2 then .body else .check) frame
  | .check => if frame.length < frameLength frame + 4 then s.keep .check frame else judgeFrame frame s

/-- Bytes taken one after another. -/
def takeBytes (bs : List Byte) (s : State) : State := bs.foldl (fun s b => takeByte b s) s

/-! ### Replies sent (R166, R173) -/

/-- REPLY_SENT: the first reply of the list finishes. If it is RESET's, the part is reset (R173); else the next
command is taken if one may be (R165). The bytes in between have no row (DESIGN CHOICE, log entry 18). -/
def replySent (s : State) : State :=
  match s.control.replies with
  | [] => s
  | r :: rest =>
    let s1 : State := { s with control := { s.control with replies := rest, ctx := some r } }
    match s.control.inHand with
    | some { tag := _, command := .reset } => s1.toReset false
    | _ => s1.takeNext

/-- A reply's frame on the line: type and tag, then the status with its items (R166, R179). -/
def ReplyBody.bytes : ReplyBody → List Byte
  | .ok clamped items => [0#8, flagByte clamped] ++ items
  | .invalid f slot => [1#8, f.code, (match slot with | some k => byte k | none => 0xFF#8)]
  | .busy => [2#8]
  | .full => [3#8]
  | .unknown => [4#8]
  | .malformed => [5#8]
  | .wrongState h => [6#8, h.code]

/-- The body of a reply's frame: type, tag, payload. -/
def Reply.frameBody (r : Reply) : List Byte := r.type :: r.tag :: r.body.bytes

/-- A reply's frame as the transmitter sends it (R166, section 11.3). -/
def Reply.frame (r : Reply) : List Byte := frameBytes r.frameBody (checkOf (lengthAndBody r.frameBody))

/-! ### READ-GROUP released by a completion (R102) -/

/-- R102: a READ-GROUP held for the pass that has completed on `g` is answered from the state the completion wrote. -/
def State.releaseReadGroup (g : Group) (s : State) : State :=
  match s.control.inHand with
  | some { tag, command := .readGroup n } =>
    if judgeGroup n = some g then
      ({ s with control := { s.control with inHand := none } } : State).reply (Command.readGroup n).typeCode tag
        (s.readGroupReply g)
    else s
  | _ => s

/-- PASS_COMPLETE (R105, R102). -/
def passComplete (s : State) : State :=
  match s.sweep.pass with
  | some p => (s.completePass p).releaseReadGroup p.group
  | none => s

/-! ### The rows -/

def execPassComplete (s : State) : Result := whenRunning s passComplete

def execControlByteTaken (b : Byte) (s : State) : Result := whenRunning s (takeByte b)

/-- FRAME_RECEIVED: the bytes of one frame arrive, from its start byte to its check (R161 to R164).
DEDUCED, log entry 5. -/
def execFrameReceived (body : List Byte) (check : Half) (s : State) : Result :=
  whenRunning s (takeBytes (frameBytes body check))

def execReplySent (s : State) : Result := whenRunning s replySent

def execIdentify (tag : Byte) (s : State) : Result := whenRunning s (receiveCommand tag .identify)

def execGetStatus (tag : Byte) (s : State) : Result := whenRunning s (receiveCommand tag .getStatus)

def execSetTime (tag : Byte) (seconds : Word) (s : State) : Result :=
  whenRunning s (receiveCommand tag (.setTime seconds))

def execSetUplink (tag : Byte) (f : UplinkFields) (s : State) : Result :=
  whenRunning s (receiveCommand tag (.setUplink f))

def execGetUplink (tag u : Byte) (s : State) : Result := whenRunning s (receiveCommand tag (.getUplink u))

def execSetAdmin (tag u mode : Byte) (s : State) : Result := whenRunning s (receiveCommand tag (.setAdmin u mode))

def execForceRestore (tag u : Byte) (s : State) : Result := whenRunning s (receiveCommand tag (.forceRestore u))

def execClearLatch (tag u : Byte) (s : State) : Result := whenRunning s (receiveCommand tag (.clearLatch u))

def execSetConduit (tag c trip : Byte) (s : State) : Result :=
  whenRunning s (receiveCommand tag (.setConduit c trip))

def execWritePlan (tag : Byte) (f : PlanFields) (s : State) : Result :=
  whenRunning s (receiveCommand tag (.writePlan f))

def execClearPlan (tag : Byte) (g : Half) (s : State) : Result := whenRunning s (receiveCommand tag (.clearPlan g))

def execCopyActive (tag : Byte) (s : State) : Result := whenRunning s (receiveCommand tag .copyActive)

def execReadPlan (tag : Byte) (g : Half) (bank : Byte) (s : State) : Result :=
  whenRunning s (receiveCommand tag (.readPlan g bank))

def execSwap (tag : Byte) (s : State) : Result := whenRunning s (receiveCommand tag .swap)

def execReadGroup (tag : Byte) (g : Half) (s : State) : Result := whenRunning s (receiveCommand tag (.readGroup g))

def execRebalance (tag : Byte) (t : RebalanceTarget) (s : State) : Result :=
  whenRunning s (receiveCommand tag (.rebalance t))

def execSetLane (tag l e p r : Byte) (s : State) : Result := whenRunning s (receiveCommand tag (.setLane l e p r))

def execSetFwdlink (tag t : Byte) (s : State) : Result := whenRunning s (receiveCommand tag (.setFwdlink t))

def execSetAlert (tag t : Byte) (l : Half) (u : Byte) (s : State) : Result :=
  whenRunning s (receiveCommand tag (.setAlert t l u))

def execFetchEvents (tag n : Byte) (s : State) : Result := whenRunning s (receiveCommand tag (.fetchEvents n))

def execReset (tag : Byte) (s : State) : Result := whenRunning s (receiveCommand tag .reset)

end Sys2Proof.Machine
end

