-- ==== Sys2Proof/Machine/Dispatch.lean ====
section
/-! DEFINITION. One arm per row of spec/opcode_table.json, each one direct call of its meaning. -/

namespace Sys2Proof.Machine

/-- A command's effect on everything but the queue of waiting commands. -/
def exec (i : Instr) (s : State) : Host.Outcome State Fault Refusal :=
  match i with
  | .losAssert u => Sys2Proof.Machine.execLosAssert u s
  | .losDeassert u => Sys2Proof.Machine.execLosDeassert u s
  | .lossQualifyExpiry u => Sys2Proof.Machine.execLossQualifyExpiry u s
  | .lightQualifyExpiry u => Sys2Proof.Machine.execLightQualifyExpiry u s
  | .holdOffExpiry u => Sys2Proof.Machine.execHoldOffExpiry u s
  | .waitToRestoreExpiry u => Sys2Proof.Machine.execWaitToRestoreExpiry u s
  | .probeEmission u => Sys2Proof.Machine.execProbeEmission u s
  | .continuityDeadlineExpiry u => Sys2Proof.Machine.execContinuityDeadlineExpiry u s
  | .probeInReceived r => Sys2Proof.Machine.execProbeInReceived r s
  | .syncReceived r => Sys2Proof.Machine.execSyncReceived r s
  | .lookupReqReceived r => Sys2Proof.Machine.execLookupReqReceived r s
  | .faultyRecordReceived r => Sys2Proof.Machine.execFaultyRecordReceived r s
  | .silenceExpiry => Sys2Proof.Machine.execSilenceExpiry s
  | .serviceBegin => Sys2Proof.Machine.execServiceBegin s
  | .recordTime => Sys2Proof.Machine.execRecordTime s
  | .passBegin => Sys2Proof.Machine.execPassBegin s
  | .passComplete => Sys2Proof.Machine.execPassComplete s
  | .lingerExpiry => Sys2Proof.Machine.execLingerExpiry s
  | .frameReceived body check => Sys2Proof.Machine.execFrameReceived body check s
  | .replySent => Sys2Proof.Machine.execReplySent s
  | .identify tag => Sys2Proof.Machine.execIdentify tag s
  | .getStatus tag => Sys2Proof.Machine.execGetStatus tag s
  | .setTime tag seconds => Sys2Proof.Machine.execSetTime tag seconds s
  | .setUplink tag f => Sys2Proof.Machine.execSetUplink tag f s
  | .getUplink tag u => Sys2Proof.Machine.execGetUplink tag u s
  | .setAdmin tag u mode => Sys2Proof.Machine.execSetAdmin tag u mode s
  | .forceRestore tag u => Sys2Proof.Machine.execForceRestore tag u s
  | .clearLatch tag u => Sys2Proof.Machine.execClearLatch tag u s
  | .setConduit tag c trip => Sys2Proof.Machine.execSetConduit tag c trip s
  | .writePlan tag f => Sys2Proof.Machine.execWritePlan tag f s
  | .clearPlan tag g => Sys2Proof.Machine.execClearPlan tag g s
  | .copyActive tag => Sys2Proof.Machine.execCopyActive tag s
  | .readPlan tag g bank => Sys2Proof.Machine.execReadPlan tag g bank s
  | .swap tag => Sys2Proof.Machine.execSwap tag s
  | .readGroup tag g => Sys2Proof.Machine.execReadGroup tag g s
  | .rebalance tag t => Sys2Proof.Machine.execRebalance tag t s
  | .setLane tag l e p r => Sys2Proof.Machine.execSetLane tag l e p r s
  | .setFwdlink tag t => Sys2Proof.Machine.execSetFwdlink tag t s
  | .setAlert tag t l u => Sys2Proof.Machine.execSetAlert tag t l u s
  | .fetchEvents tag n => Sys2Proof.Machine.execFetchEvents tag n s
  | .reset tag => Sys2Proof.Machine.execReset tag s
  | .resetInputAssert => Sys2Proof.Machine.execResetInputAssert s
  | .resetInputRelease => Sys2Proof.Machine.execResetInputRelease s
  | .controlByteTaken b => Sys2Proof.Machine.execControlByteTaken b s

end Sys2Proof.Machine
end

