-- ==== Sys2Proof/Safety.lean ====
section
/-! DEFINITION. What a sound state of the part is, in the terms claims use: the properties the manual states of every
moment, and the invariants that make every step keep them. Each is about one block or one pair of blocks. -/

namespace Sys2Proof.Machine

/-! ### Stores and plans (chapters 4 and 5) -/

/-- Every group-addressed store is in its canonical form (log entry 17). -/
def StoresCanonical (s : State) : Prop :=
  GroupMap.canonical Plan.default s.plans.bankA ∧ GroupMap.canonical Plan.default s.plans.bankB
    ∧ GroupMap.canonical GroupBuckets.reset s.buckets ∧ GroupMap.sorted s.sweep.dirty

/-- R64: at most 8 members, no uplink twice, every weight 1 to 15, and no fallback on itself. -/
def Plan.WellFormed (p : Plan) (g : Group) : Prop :=
  p.members.length ≤ 8 ∧ (p.members.map Member.uplink).Nodup ∧ (∀ m ∈ p.members, 1 ≤ m.weight ∧ m.weight ≤ 15)
    ∧ p.fallback ≠ some g

/-- R64: every plan record in either bank. -/
def PlansWellFormed (s : State) : Prop := ∀ b g, (s.planIn b g).WellFormed g

/-! ### Uplinks (chapters 1 and 2) -/

/-- The ranges of sections 1.1 and 2.1. -/
def Settings.InRange (x : Settings) : Prop :=
  x.lossQualify ≤ 1000 ∧ x.lightQualify ≤ 1000 ∧ x.holdOff ≤ 10000 ∧ x.waitToRestore ≤ 3600
    ∧ 1 ≤ x.interval ∧ x.interval ≤ 250 ∧ x.phase < x.interval ∧ x.multiplier ≠ 1 ∧ x.multiplier ≤ 15
    ∧ x.setThreshold ≤ 32 ∧ (x.setThreshold = 0 → x.clearThreshold = 0)
    ∧ (x.setThreshold ≠ 0 → x.clearThreshold < x.setThreshold)

/-- Section 1.2: the loss-qualify timer runs only while qualified LOS is false, the light-qualify timer only while it
is true, each for the level that started it; R7: a DISABLED uplink's filter is idle. -/
def UplinkState.FilterSound (x : UplinkState) : Prop :=
  (x.lossTimer.isSome → x.rawLos = true ∧ x.qualLos = false)
    ∧ (x.lightTimer.isSome → x.rawLos = false ∧ x.qualLos = true)
    ∧ (x.monitored = false → x.qualLos = false ∧ x.lossTimer = none ∧ x.lightTimer = none)

/-- Section 1.5: IDLE exactly when DISABLED (R9), each timer exactly in its state, and what each state says of the
defect set (R14, R15, R17, R18). -/
def UplinkState.HealthSound (x : UplinkState) : Prop :=
  (x.health = .idle ↔ x.admin = .disabled) ∧ (x.holdOffTimer.isSome ↔ x.health = .holdoff)
    ∧ (x.restoreTimer.isSome ↔ x.health = .restoring)
    ∧ (x.health = .up ∨ x.health = .restoring → x.defects.present = false)
    ∧ (x.health = .down ∨ x.health = .start → x.defects.present = true)

/-- Section 2.1: the deadline runs only while continuity is ESTABLISHED and the link UP, is suspended while it is
ESTABLISHED and the link DOWN, and is stopped in every other case. -/
def UplinkState.DeadlineSound (linkUp : Bool) (x : UplinkState) : Prop :=
  match x.deadline with
  | .running _ => x.continuity = .established ∧ linkUp = true
  | .suspended => x.continuity = .established ∧ linkUp = false
  | .stopped => x.continuity ≠ .established

/-- R27: what an uplink holds while it probes and while it does not; R40, R44, R45, R46. -/
def UplinkState.ProbeSound (x : UplinkState) : Prop :=
  (x.probing = false ↔ x.continuity = .inactive) ∧ (x.probing = false ↔ x.clock = .stopped)
    ∧ (x.continuity ≠ .established →
        x.rdi = false ∧ x.window = [] ∧ x.degraded = false ∧ x.lastAccepted = none ∧ x.errored = 0)
    ∧ x.window.length ≤ 32 ∧ x.errored ≤ 255
    ∧ (x.degraded = true → x.settings.setThreshold ≠ 0 ∧ x.settings.clearThreshold < nonGood x.window)
    ∧ (x.degraded = false → x.settings.setThreshold = 0 ∨ nonGood x.window < x.settings.setThreshold)

/-- R1: raw LOS follows the input, but for the time the RESET input holds the part (R174). -/
def RawFollowsInput (s : State) : Prop := s.resetHeld = false → ∀ u, (s.uplink u).rawLos = (s.uplink u).losPin

/-- Every uplink's filter, health, probe state and settings are sound. -/
def UplinksSound (s : State) : Prop :=
  ∀ u, (s.uplink u).settings.InRange ∧ (s.uplink u).FilterSound ∧ (s.uplink u).HealthSound
    ∧ (s.uplink u).DeadlineSound s.fwd.linkUp ∧ (s.uplink u).ProbeSound

/-- R52, R58, R59: every usable, tripped and shunned flag is exactly its condition. -/
def UsabilityExact (s : State) : Prop :=
  (∀ c, (s.conduit c).tripped = true ↔
      (s.conduit c).tripCount ≠ 0 ∧ (s.conduit c).tripCount ≤ s.downCount c)
    ∧ (∀ u, (s.uplink u).shunned = true ↔
        (s.uplink u).monitored = true ∧ (s.uplink u).health ≠ .down
          ∧ ∃ c, (s.uplink u).settings.conduit = some c ∧ (s.conduit c).tripCount ≠ 0
              ∧ (s.conduit c).tripCount ≤ s.downCount c)
    ∧ (∀ u, (s.uplink u).usable = true ↔
        (s.uplink u).admin = .active ∧ ((s.uplink u).health = .up ∨ (s.uplink u).health = .holdoff)
          ∧ (s.uplink u).shunned = false
          ∧ ¬ ((s.uplink u).degraded = true ∧ (s.uplink u).settings.policy = .fail))

/-- Section 3.1: a trip count is 0 to 8. -/
def TripCountsInRange (s : State) : Prop := ∀ c, (s.conduit c).tripCount ≤ 8

/-! ### Lanes, link (chapters 7 and 8) -/

/-- R120, R123, R119, R121: marks in range, at most 16 requests, paused from the pause mark down to the resume mark,
an overrun only in a paused episode, and every request in the queue its lane field names. -/
def LaneState.Sound (l : Lane) (x : LaneState) : Prop :=
  2 ≤ x.pauseMark ∧ x.pauseMark ≤ 16 ∧ x.resumeMark < x.pauseMark ∧ x.queue.length ≤ 16
    ∧ (x.pauseMark ≤ x.queue.length → x.paused = true) ∧ (x.paused = true → x.resumeMark < x.queue.length)
    ∧ (x.overrun = true → x.paused = true) ∧ ∀ q ∈ x.queue, q.lane = l

/-- Every lane is sound. -/
def LanesSound (s : State) : Prop := ∀ l, (s.lane l).Sound l

/-- Chapter 8: the silence timer runs exactly while the link is UP (R141), the settings and counts are in range, the
lists hold at most two refusals, one signal per lane and one probe per uplink (R143), and while the link is DOWN
nothing waits (R135, R141, R143). -/
def LinkSound (s : State) : Prop :=
  (s.fwd.silenceTimer.isSome ↔ s.fwd.linkUp = true) ∧ 1 ≤ s.fwd.silence ∧ s.fwd.silence ≤ 100
    ∧ s.fwd.headerErrors ≤ 255 ∧ s.fwd.refusals.length ≤ 2
    ∧ s.fwd.signals.Pairwise (fun x y => x.lane ≠ y.lane)
    ∧ s.fwd.probes.Pairwise (fun x y => x.uplink ≠ y.uplink)
    ∧ (s.fwd.linkUp = false →
        s.fwd.refusals = [] ∧ s.fwd.signals = [] ∧ s.fwd.probes = [] ∧ s.lookup.serving = none
          ∧ ∀ l, (s.lane l).queue = [])

/-! ### Events and time (chapter 9) -/

/-- R156: the linger timer is stopped, or measures the age of the oldest record. -/
def EventQueue.LingerSound (q : EventQueue) (now : Nat) : Prop :=
  match q.lingerTimer with
  | .stopped => q.linger = 0 ∨ q.records = []
  | .running t => q.linger ≠ 0 ∧ q.records.head?.map (fun r => r.enqueuedAt + ms q.linger) = some t
  | .expired => q.linger ≠ 0 ∧ ∃ r, q.records.head? = some r ∧ r.enqueuedAt + ms q.linger ≤ now

/-- R151, R155 to R157: at most 64 records in order of enqueue time, settings in range, the line asserted exactly while
one of its three conditions holds, the linger timer aimed at the oldest record. -/
def EventsSound (s : State) : Prop :=
  s.events.records.length ≤ 64 ∧ 1 ≤ s.events.trigger ∧ s.events.trigger ≤ 64 ∧ s.events.linger ≤ 1000
    ∧ s.clock.micros < 1000000 ∧ (∀ r ∈ s.events.records, r.micros < 1000000 ∧ r.enqueuedAt ≤ s.clock.now)
    ∧ s.events.records.Pairwise (fun x y => x.enqueuedAt ≤ y.enqueuedAt)
    ∧ (s.events.alert = true ↔
        s.events.trigger ≤ s.events.records.length
          ∨ (s.events.linger ≠ 0 ∧ s.events.records ≠ [] ∧ s.events.lingerTimer = .expired)
          ∨ (s.events.urgentImmediate = true ∧ ∃ r ∈ s.events.records, r.event.severity = .urgent))
    ∧ s.events.LingerSound s.clock.now

/-! ### The sweep and the swap (chapters 4 and 6) -/

/-- R114: an episode is open exactly while a pass is in flight or the dirty set is not empty, and its pass count is at
most 4,095. -/
def EpisodeSound (s : State) : Prop :=
  (s.sweep.episode.isSome ↔ s.sweep.pass.isSome ∨ s.sweep.dirty ≠ []) ∧
    ∀ e ∈ s.sweep.episode, e.passes ≤ 4095

/-- A group's dirty-set entry carries the replan flag. -/
def State.replanQueued (s : State) (g : Group) : Prop := ∃ f, GroupMap.find s.sweep.dirty g = some f ∧ f.replan = true

/-- R66, R74, R112: outside a swap every group is served from the active bank and no replan is asked for; during one,
the groups still served from the active bank are exactly those whose one replan pass is to come, and there is one. -/
def SwapSound (s : State) : Prop :=
  GroupMap.sorted s.sweep.dirty
    ∧ (∀ g, ¬ (s.replanQueued g ∧ s.underReplan g = true))
    ∧ (s.plans.swapInFlight = true → ∃ g, (s.group g).selector = s.plans.active)
    ∧ ∀ g, if s.plans.swapInFlight then
        ((s.group g).selector = s.plans.active ↔ s.replanQueued g ∨ s.underReplan g = true)
      else (s.group g).selector = s.plans.active ∧ ¬ s.replanQueued g ∧ s.underReplan g = false

/-- A slot is populated in a plan (R84). -/
def Plan.Populated (p : Plan) (k : Slot) : Prop := k.val < p.members.length

/-- R84, R89, R109: a planned group's served buckets hold their home by the largest-remainder shares and a populated
current slot; an unplanned group's are cleared, and it is not evacuated. -/
def ArraysSound (s : State) : Prop :=
  ∀ g,
    if (s.servedPlan g).planned then
      ∀ b : BucketNo, ∃ h c, (s.servedArray g).get b = { home := some h, current := some c }
        ∧ (homeRuns (s.servedPlan g))[b.val]? = some h ∧ (s.servedPlan g).Populated h ∧ (s.servedPlan g).Populated c
    else s.servedArray g = BucketArray.cleared ∧ (s.group g).evacuated = false

/-- Some member of a plan is usable now. -/
def State.someUsable (s : State) (p : Plan) : Prop := ∃ m ∈ p.members, (s.uplink m.uplink).usable = true

/-- R115, with R106's flag: a planned group that is neither in the dirty set nor under a pass has every bucket on a
usable member and is not evacuated, or has no usable member and is evacuated. -/
def Settled (s : State) : Prop :=
  ∀ g, (s.servedPlan g).planned = true → s.unsettled g = false →
    (s.someUsable (s.servedPlan g) ∧ (s.group g).evacuated = false
      ∧ ∀ b : BucketNo, ∃ k m, ((s.servedArray g).get b).current = some k ∧ (s.servedPlan g).member k = some m
          ∧ (s.uplink m.uplink).usable = true)
    ∨ (¬ s.someUsable (s.servedPlan g) ∧ (s.group g).evacuated = true)

/-- R54, R55: a usability change since the snapshot of the pass in flight, of an uplink that the pass's plans name, has
marked the group again. -/
def SnapshotCovered (s : State) : Prop :=
  ∀ p ∈ s.sweep.pass, ∀ u, s.marksFor u p.group = true → p.snapshot.get u ≠ (s.uplink u).usable →
    (GroupMap.find s.sweep.dirty p.group).isSome

/-! ### The control port and reset (chapter 10) -/

/-- R161: what the receiver has taken in each state. -/
def ControlState.ReceiverSound (c : ControlState) : Prop :=
  match c.rx with
  | .hunting => c.frame = []
  | .length => c.frame.length < 2
  | .body => 2 ≤ frameLength c.frame ∧ frameLength c.frame ≤ 514 ∧ 2 ≤ c.frame.length
      ∧ c.frame.length < frameLength c.frame + 2
  | .check => 2 ≤ frameLength c.frame ∧ frameLength c.frame ≤ 514 ∧ frameLength c.frame + 2 ≤ c.frame.length
      ∧ c.frame.length < frameLength c.frame + 4

/-- R102, R173: a command stays in hand only as a READ-GROUP whose group is under a pass, or as a RESET whose reply is
being sent. -/
def InHandSound (s : State) : Prop :=
  match s.control.inHand with
  | none => True
  | some q => (∃ n g, q.command = .readGroup n ∧ judgeGroup n = some g ∧ s.underPass g = true)
      ∨ (q.command = .reset ∧ s.control.replies ≠ [])

/-- R161, R164, R165, R176: the receiver, the eight places, the command in hand, and a queue that waits only behind a
command in hand or a reply to be sent. -/
def ControlSound (s : State) : Prop :=
  s.control.ReceiverSound ∧ s.control.queue.length ≤ 8 ∧ s.control.frameErrors ≤ 255 ∧ InHandSound s
    ∧ (s.mayTake = true → s.control.queue = [])

/-- R174: while the RESET input is asserted the part is held at its reset values. -/
def HeldAtReset (s : State) : Prop := s.resetHeld = true → s.toReset true = s

/-! ### The invariants together -/

/-- Chapters 4 and 6: the two banks, the dirty set, the swap and the episode. -/
def BanksSound (s : State) : Prop := StoresCanonical s ∧ PlansWellFormed s ∧ SwapSound s ∧ EpisodeSound s

/-- Chapters 1 and 2: the uplinks, and what the RESET input holds. -/
def MonitorSound (s : State) : Prop := UplinksSound s ∧ RawFollowsInput s ∧ HeldAtReset s

/-- Chapter 3. -/
def ConduitsSound (s : State) : Prop := UsabilityExact s ∧ TripCountsInRange s

/-- Chapters 7 and 8. -/
def ForwardingSound (s : State) : Prop := LanesSound s ∧ LinkSound s

/-- Chapters 3, 5 and 6: what settles every group (R115). -/
def SweepSound (s : State) : Prop := BanksSound s ∧ ArraysSound s ∧ Settled s ∧ SnapshotCovered s

/-! ### Words of the statements -/

/-- The row of the table that a command is, under the tag of the frame that brings it (log entry 4). -/
def rowOf (tag : Byte) : Command → Instr
  | .identify => .identify tag
  | .getStatus => .getStatus tag
  | .setTime n => .setTime tag n
  | .setUplink f => .setUplink tag f
  | .getUplink u => .getUplink tag u
  | .setAdmin u m => .setAdmin tag u m
  | .forceRestore u => .forceRestore tag u
  | .clearLatch u => .clearLatch tag u
  | .setConduit c n => .setConduit tag c n
  | .writePlan f => .writePlan tag f
  | .clearPlan g => .clearPlan tag g
  | .copyActive => .copyActive tag
  | .readPlan g b => .readPlan tag g b
  | .swap => .swap tag
  | .readGroup g => .readGroup tag g
  | .rebalance x => .rebalance tag x
  | .setLane l e p r => .setLane tag l e p r
  | .setFwdlink n => .setFwdlink tag n
  | .setAlert t l u => .setAlert tag t l u
  | .fetchEvents n => .fetchEvents tag n
  | .reset => .reset tag

/-- Nothing holds the part and nothing is ahead of a command at the control port, so that it is taken at once (R165). -/
def State.PortFree (s : State) : Prop :=
  s.resetHeld = false ∧ s.control.queue = [] ∧ s.control.inHand = none ∧ s.control.replies = []

/-- `t` has answered, and nothing else at the control port differs from `s`. -/
def State.Answers (s t : State) (type tag : Byte) (body : ReplyBody) : Prop :=
  t.control = { s.control with replies := s.control.replies ++ [{ type, tag, body }] }

/-- The forwarding port with its silence timer restarted from the present setting (R139, step 2). -/
def State.silenceRestarted (s : State) : FwdState :=
  { s.fwd with silenceTimer := some { expiry := s.clock.now + s.fwd.silence * 1000, given := s.fwd.silence } }

/-- From `s` to `t`, uplink `u` takes the state `x`, and no other uplink changes, but for the shunned and usable flags,
which the usability evaluation of the step writes (R53). -/
def State.UplinkBecomes (s t : State) (u : Uplink) (x : UplinkState) : Prop :=
  (∃ a b, t.uplink u = { x with shunned := a, usable := b })
    ∧ ∀ v, v ≠ u → ∃ a b, t.uplink v = { s.uplink v with shunned := a, usable := b }

/-- R54, R55: an uplink whose usable flag differs from `s` to `t` is a member of the plan the group is served from, or,
while a replan pass on the group is in flight, of its plan in either bank. -/
def State.MarkDue (s t : State) (g : Group) : Prop :=
  ∃ u, (t.uplink u).usable ≠ (s.uplink u).usable
    ∧ ((∃ m ∈ (s.servedPlan g).members, m.uplink = u)
      ∨ ∃ p b, s.sweep.pass = some p ∧ p.group = g ∧ p.flags.replan = true
          ∧ ∃ m ∈ (s.planIn b g).members, m.uplink = u)

/-- R54, R55, R97: from `s` to `t` the dirty set gains exactly the groups due a mark, with neither flag; an entry that
stood stands as it was. R114: the episode opens, at `t`'s time, exactly if none is open and an entry is made. -/
def State.MarksDirty (s t : State) : Prop :=
  let new (g : Group) : Prop := GroupMap.find s.sweep.dirty g = none ∧ s.MarkDue t g
  (∀ g f, GroupMap.find s.sweep.dirty g = some f → GroupMap.find t.sweep.dirty g = some f)
    ∧ (∀ g, new g → GroupMap.find t.sweep.dirty g = some { replan := false, rebalance := false })
    ∧ (∀ g, GroupMap.find s.sweep.dirty g = none → ¬ s.MarkDue t g → GroupMap.find t.sweep.dirty g = none)
    ∧ (∀ e, s.sweep.episode = some e → t.sweep.episode = some e)
    ∧ (s.sweep.episode = none → (∃ g, new g) → t.sweep.episode =
        some { startSeconds := t.clock.seconds, startMicros := t.clock.micros, passes := 0 })
    ∧ (s.sweep.episode = none → (∀ g, ¬ new g) → t.sweep.episode = none)

/-- R148: from `s` to `t` elapsed time reaches `e`, if it had not passed it (log entry 2), and the time base counts the
same microseconds, its seconds modulo 2^32. -/
def State.TimeReaches (s t : State) (e : Nat) : Prop :=
  let micros := s.clock.micros + (e - s.clock.now)
  t.clock = { seconds := s.clock.seconds + BitVec.ofNat 32 (micros / 1000000), micros := micros % 1000000,
              now := max e s.clock.now }

/-- What no event on an uplink changes: plans, buckets, lanes, the engine's cursor and pass, the conduits' trip counts,
the alert settings, the RESET input and the waiting commands. -/
def State.SameBlocks (s t : State) : Prop :=
  t.plans = s.plans ∧ t.buckets = s.buckets ∧ t.lookup = s.lookup ∧ t.sweep.cursor = s.sweep.cursor
    ∧ t.sweep.pass = s.sweep.pass ∧ (∀ c, (t.conduit c).tripCount = (s.conduit c).tripCount)
    ∧ t.events.trigger = s.events.trigger ∧ t.events.linger = s.events.linger
    ∧ t.events.urgentImmediate = s.events.urgentImmediate ∧ t.resetHeld = s.resetHeld ∧ t.pending = s.pending

/-- What an event on an uplink does beyond the uplinks, the tripped flags and the events: the dirty marks of its
usability changes, and nothing else. -/
def State.SameBeyondUplinks (s t : State) : Prop := s.SameBlocks t ∧ s.MarksDirty t

/-- What SET-CONDUIT on conduit `c` does not change: the other conduits and every block that is neither the Uplink
Monitor, the event queue nor the control port; of the dirty set, all but the marks of its usability changes; nor the
event queue's settings. -/
def State.SameElsewhereThanConduit (s t : State) (c : Conduit) : Prop :=
  (∀ d, d ≠ c → t.conduit d = s.conduit d) ∧ t.clock = s.clock ∧ t.plans = s.plans ∧ t.buckets = s.buckets
    ∧ t.lookup = s.lookup ∧ t.fwd = s.fwd ∧ t.sweep.cursor = s.sweep.cursor ∧ t.sweep.pass = s.sweep.pass
    ∧ t.events.trigger = s.events.trigger ∧ t.events.linger = s.events.linger
    ∧ t.events.urgentImmediate = s.events.urgentImmediate ∧ t.resetHeld = s.resetHeld ∧ t.pending = s.pending ∧ s.MarksDirty t

/-- R60: what the step from `s` to `t` reports of a conduit: CONDUIT-TRIP when its tripped flag sets, with the members
that the trip shuns; CONDUIT-RELEASE when it clears, with those whose shunning has ended; nothing when it stays. The
membership is that after the step (log entry 16). -/
def State.conduitReport (s t : State) (c : Conduit) : List Event :=
  let member (u : Uplink) : Bool := decide ((t.uplink u).settings.conduit = some c)
  match (s.conduit c).tripped, (t.conduit c).tripped with
  | false, true => [.conduitTrip c (t.conduit c).tripCount (t.downCount c)
      (Vector.ofFn fun u => member u && (t.uplink u).shunned)]
  | true, false => [.conduitRelease c (t.conduit c).tripCount (t.downCount c)
      (Vector.ofFn fun u => member u && (s.uplink u).shunned && !(t.uplink u).shunned)]
  | false, false => []
  | true, true => []

/-- R53, R60: the conduits a step on uplink `u` can trip or release, reported in their order: the one it was a member
of, then, after a membership change, the one it is a member of. -/
def State.conduitReports (s t : State) (u : Uplink) : List Event :=
  let old := (s.uplink u).settings.conduit
  let new := (t.uplink u).settings.conduit
  (old.toList ++ if old = new then [] else new.toList).flatMap (s.conduitReport t)

/-- R21: the event of a health transition that a change of the defect set brings (R14, R15, R17, R18). -/
def State.healthReport (s t : State) (u : Uplink) : List Event :=
  match (s.uplink u).health, (t.uplink u).health with
  | .start, .restoring => [.uplinkRestoring u .start]
  | .start, .up => [.uplinkUp u .start]
  | .up, .holdoff => [.uplinkHoldoff u (t.uplink u).defects]
  | .up, .down => [.uplinkDown u (t.uplink u).defects]
  | .down, .restoring => [.uplinkRestoring u .clear]
  | .down, .up => [.uplinkUp u .clear]
  | .restoring, .down => [.uplinkDown u (t.uplink u).defects]
  | _, _ => []

/-- R47: the event of a change of the degraded flag, with the non-GOOD count and the length of the window (log entry 13
where the window was emptied). -/
def State.degradeReport (s t : State) (u : Uplink) : List Event :=
  let w := (t.uplink u).window
  let n := w.countP fun o => o ≠ ProbeOutcome.good
  match (s.uplink u).degraded, (t.uplink u).degraded with
  | false, true => [.degradeSet u (t.uplink u).settings.policy n w.length]
  | true, false => [.degradeClear u n w.length]
  | false, false => []
  | true, true => []

/-- R150 to R152: from `s` to `t` the events `es`, stamped with `t`'s time, are handed to the queue, each finding it as
the one before has left it, full or not (`FullQueueKeepsUrgentRecords`), and nothing else changes the queue; with room
for them all they stand at its tail. -/
def State.Hands (s t : State) (es : List Event) : Prop :=
  t.events = es.foldl (fun q e => q.enqueue (e.stamped t.clock) t.clock.now) s.events
    ∧ (s.events.records.length + es.length ≤ 64 →
        t.events.records = s.events.records ++ es.map (·.stamped t.clock))

/-- A step on uplink `u` hands the events `es` to the queue, and after them the CONDUIT events of the step (R53, step
5). -/
def State.Queues (s t : State) (u : Uplink) (es : List Event) : Prop := s.Hands t (es ++ s.conduitReports t u)

/-- The records a bank holds, group by group, are those of another state's bank. -/
def State.SameRecords (s t : State) (b : Bank) : Prop := ∀ g, t.planIn b g = s.planIn b g

/-- An uplink's health and timers after a defect evaluation that leaves the set as `x` shows it (R13 to R18), `old`
being the uplink before. -/
def UplinkState.FollowsTable (old x : UplinkState) (now : Nat) : Prop :=
  let present := x.defects.present = true
  let wait := x.settings.waitToRestore
  let rest (y : UplinkState) := if wait = 0 then y.health = .up ∧ y.restoreTimer = none
    else y.health = .restoring ∧ y.restoreTimer = some (now + wait * 1000000)
  match old.health with
  | .idle => x.health = .idle
  | .start => (present → x.health = .start) ∧ (¬ present → rest x)
  | .up => (¬ present → x.health = .up) ∧ (present →
      if x.settings.holdOff = 0 then x.health = .down ∧ x.holdOffTimer = none
      else x.health = .holdoff ∧ x.holdOffTimer = some (now + x.settings.holdOff * 1000))
  | .holdoff => x.health = .holdoff ∧ x.holdOffTimer = old.holdOffTimer
  | .down => (present → x.health = .down) ∧ (¬ present → rest x)
  | .restoring => (¬ present → x.health = .restoring ∧ x.restoreTimer = old.restoreTimer)
      ∧ (present → x.health = .down ∧ x.restoreTimer = none)

end Sys2Proof.Machine
end

