-- ==== Sys2Proof/WellFormed.lean ====
section
/-! DEFINITION. Which operands a sender can give: a record row's bytes are of the row's own class, a WRITE-PLAN fits
the largest payload, and a frame's body can be counted by its two-byte length. -/

namespace Sys2Proof

/-- The largest payload is 512 bytes (section 10.1), so a WRITE-PLAN names at most (512 - 8) / 2 = 252 members. -/
def maxWireMembers : Nat := 252

/-- A command whose payload a frame can carry. -/
def Command.wf : Command → Bool
  | .writePlan f => f.members.length ≤ maxWireMembers
  | _ => true

/-- The operands of a row are ones a sender can give. -/
def Instr.wf : Instr → Bool
  | .probeInReceived r => r.classify = .valid .probeIn
  | .syncReceived r => r.classify = .valid .sync
  | .lookupReqReceived r => r.classify = .valid .lookupReq
  | .faultyRecordReceived (some r) =>
    match r.classify with
    | .faulty _ => true
    | .valid _ => false
  | .frameReceived body _ => body.length < 65536
  | .writePlan _ f => f.members.length ≤ maxWireMembers
  | .losAssert _ | .losDeassert _ | .lossQualifyExpiry _ | .lightQualifyExpiry _ | .holdOffExpiry _
  | .waitToRestoreExpiry _ | .probeEmission _ | .continuityDeadlineExpiry _ | .faultyRecordReceived none
  | .silenceExpiry | .serviceBegin | .recordTime | .passBegin | .passComplete | .lingerExpiry | .replySent
  | .identify _ | .getStatus _ | .setTime _ _ | .setUplink _ _ | .getUplink _ _ | .setAdmin _ _ _
  | .forceRestore _ _ | .clearLatch _ _ | .setConduit _ _ _ | .clearPlan _ _ | .copyActive _ | .readPlan _ _ _
  | .swap _ | .readGroup _ _ | .rebalance _ _ | .setLane _ _ _ _ _ | .setFwdlink _ _ | .setAlert _ _ _ _
  | .fetchEvents _ _ | .reset _ | .resetInputAssert | .resetInputRelease | .controlByteTaken _ => true

end Sys2Proof
end

