-- ==== Sys2Proof/Certificates/Slice0/Obligations.lean ====
section
/-! DEFINITION. The statements for the provers. Each docstring names the rules of spec/ a statement formalises, and the
log entry where a clause rests on the model's choice. -/

open Sys2Proof Sys2Proof.Machine

/-! ### Steps and reset -/

/-- A step carries out the command at the front of the queue with the queue's rest. That commands wait in `pending` and
are taken from its front is the model's choice (log entries 22 and 23). -/
def Obligations.StepRunsTheFrontCommand : Prop :=
  ∀ (c : Instr) (rest : List Instr) (s : State),
    step { s with pending := c :: rest } = exec c { s with pending := rest }

/-- With no command waiting, one microsecond passes on the time base (R148), unless the RESET input holds the part.
That an idle step is a microsecond is the model's choice (log entry 3), as is the elapsed scale `now` (log entry 9). -/
def Obligations.EmptyQueueTicks : Prop :=
  ∀ s : State, s.pending = [] →
    (s.resetHeld = true → step s = .next s)
    ∧ (s.resetHeld = false → s.clock.micros < 1000000 →
        step s = .next { s with clock :=
          { seconds := if s.clock.micros = 999999 then s.clock.seconds + 1#32 else s.clock.seconds,
            micros := if s.clock.micros = 999999 then 0 else s.clock.micros + 1,
            now := s.clock.now + 1 } })

/-- R174: the assertion of the RESET input brings every block to its reset values, whatever the part was doing; its
release lets raw LOS follow each input and changes nothing else. What the outward lines carried stays (log entry 8), the
elapsed scale `now` goes back to 0 (log entry 9), and raw LOS keeps its value while the input is held (log entry 21).
R173, last paragraph: a RESET command taken first has its reply sent (in this step: log entry 28); R175: no other. -/
def Obligations.ResetInputResetsEveryBlock : Prop :=
  ∀ s : State,
    (∃ t, exec .resetInputAssert s = .next t ∧ t.resetHeld = true ∧ t.pending = s.pending
      ∧ t.clock = { seconds := 0#32, micros := 0, now := 0 }
      ∧ (∀ u, t.uplink u =
          { losPin := (s.uplink u).losPin, rawLos := (s.uplink u).rawLos, qualLos := false, lossTimer := none,
            lightTimer := none,
            settings :=
              { conduit := none, lossQualify := 50, lightQualify := 100, holdOff := 0, waitToRestore := 60,
                interval := 10, phase := 0, multiplier := 0, setThreshold := 0, clearThreshold := 0,
                policy := .report },
            admin := .disabled, health := .idle, holdOffTimer := none, restoreTimer := none,
            latches := { los := false, cont := false, rdi := false, sd := false }, clock := .stopped, outSeq := 0#8,
            lastAccepted := none, errored := 0, continuity := .inactive, deadline := .stopped, rdi := false,
            window := [], degraded := false, shunned := false, usable := false })
      ∧ (∀ c, t.conduit c = { tripCount := 0, tripped := false })
      ∧ t.plans.active = .A ∧ t.plans.swapInFlight = false
      ∧ (∀ b g, t.planIn b g =
          { members := [], fold := .direct, revert := .revertive, fallback := none, emptyAction := .punt })
      ∧ (∀ g, (t.group g).selector = .A ∧ (t.group g).evacuated = false ∧ (t.group g).unplannedHit = false
          ∧ ∀ bank (b : BucketNo), ((t.group g).array bank).get b = { home := none, current := none })
      ∧ t.sweep = { dirty := [], cursor := 0, pass := none, episode := none }
      ∧ (∀ l, t.lane l =
          { enabled := true, pauseMark := 12, resumeMark := 4, queue := [], paused := false, overrun := false })
      ∧ t.lookup.serving = none ∧ t.lookup.lastServed = 3
      ∧ t.fwd =
          { linkUp := false, silenceTimer := none, silence := 10, headerErrors := 0, refusals := [], signals := [],
            probes := [], ftx := s.fwd.ftx }
      ∧ t.events =
          { records := [], lost := false, trigger := 1, linger := 0, urgentImmediate := true,
            lingerTimer := .stopped, alert := false }
      ∧ t.control =
          { rx := .hunting, frame := [], frameErrors := 0, queue := [], inHand := none, replies := [],
            ctx := t.control.ctx }
      ∧ (∀ tag r rest, s.control.inHand = some { tag, command := .reset } → s.control.replies = r :: rest →
          t.control.ctx = some r)
      ∧ (s.control.replies = [] ∨ (∀ tag, s.control.inHand ≠ some { tag, command := .reset }) →
          t.control.ctx = s.control.ctx))
    ∧ (s.resetHeld = true → ∃ t, exec .resetInputRelease s = .next t
        ∧ (∀ u, t.uplink u = { s.uplink u with rawLos := (s.uplink u).losPin })
        ∧ t = { s with resetHeld := false, uplinks := t.uplinks })

/-- R173: RESET is answered OK and stays in hand; when that reply has been sent, the part is at its reset values, and the
RESET input asserted and released before the reply was sent leaves the same part and the same reply (R174; log entry 28
for the step in which that reply goes, log entry 8 for the reply that `ctx` shows, log entry 18 for REPLY_SENT as the end
of a reply). -/
def Obligations.ResetCommandResetsAfterItsReply : Prop :=
  (∀ (tag : Byte) (s : State), s.PortFree →
    exec (.reset tag) s = .next { s with control := { s.control with
      inHand := some { tag, command := .reset },
      replies := [{ type := 0x3F#8, tag, body := .ok false [] }] } })
  ∧ ∀ (tag : Byte) (r : Reply) (rest : List Reply) (s : State), s.resetHeld = false →
      s.control.inHand = some { tag, command := .reset } → s.control.replies = r :: rest →
      ∃ a b, exec .resetInputAssert s = .next a ∧ exec .resetInputRelease a = .next b
        ∧ exec .replySent s = .next b ∧ b.control.ctx = some r

/-- R174: while the RESET input is asserted the part is held at its reset values. That every row but the release (the
expiries and RECORD_TIME too) then leaves it as it is, and that an edge of a loss-of-light input records the input's
level and nothing else, is the model's reading of that rule (log entry 21); so the basis is derived. -/
def Obligations.HeldPartIgnoresEvents : Prop :=
  ∀ s : State, s.resetHeld = true →
    (∀ c : Instr, c ≠ .resetInputAssert → c ≠ .resetInputRelease →
      (∀ u, c ≠ .losAssert u ∧ c ≠ .losDeassert u) → exec c s = .next s)
    ∧ ∀ u, ∃ t t', exec (.losAssert u) s = .next t ∧ exec (.losDeassert u) s = .next t'
      ∧ t = { s with uplinks := t.uplinks } ∧ t' = { s with uplinks := t'.uplinks }
      ∧ (∀ v, t.uplink v = if v = u then { s.uplink u with losPin := true } else s.uplink v)
      ∧ ∀ v, t'.uplink v = if v = u then { s.uplink u with losPin := false } else s.uplink v

/-! ### The loss-of-light filter and the protection machine (chapter 1) -/

/-- R2, R3: an edge of raw LOS on a monitored uplink; R1: an edge on a DISABLED uplink updates raw LOS and does nothing
further. Health and its timers follow the protection machine (`ProtectionMachineFollowsItsTable`). Of the dirty set only
the marks of R54 and R55 change (`State.MarksDirty`, in `State.SameBeyondUplinks`). -/
def Obligations.LosEdgesFollowTheFilter : Prop :=
  ∀ (u : Uplink) (s : State), s.resetHeld = false →
    let x := s.uplink u
    (x.rawLos = false → x.monitored = true →
      ∃ t h ho wr, exec (.losAssert u) s = .next t ∧ s.SameBeyondUplinks t
        ∧ t.clock = s.clock ∧ t.fwd = s.fwd ∧ t.control = s.control
        ∧ s.UplinkBecomes t u
          { x with
            losPin := true, rawLos := true, lightTimer := none,
            qualLos := x.qualLos || decide (x.settings.lossQualify = 0),
            lossTimer := if x.qualLos = false ∧ x.settings.lossQualify ≠ 0 then
              some (s.clock.now + x.settings.lossQualify) else x.lossTimer,
            latches := { x.latches with
              los := x.latches.los || (!x.qualLos && decide (x.settings.lossQualify = 0)) },
            health := h, holdOffTimer := ho, restoreTimer := wr })
    ∧ (x.rawLos = true → x.monitored = true →
      ∃ t h ho wr, exec (.losDeassert u) s = .next t ∧ s.SameBeyondUplinks t
        ∧ t.clock = s.clock ∧ t.fwd = s.fwd ∧ t.control = s.control
        ∧ s.UplinkBecomes t u
          { x with
            losPin := false, rawLos := false, lossTimer := none,
            qualLos := x.qualLos && decide (x.settings.lightQualify ≠ 0),
            lightTimer := if x.qualLos = true ∧ x.settings.lightQualify ≠ 0 then
              some (s.clock.now + x.settings.lightQualify * 1000) else x.lightTimer,
            health := h, holdOffTimer := ho, restoreTimer := wr })
    ∧ (x.rawLos = false → x.monitored = false →
      ∃ t, exec (.losAssert u) s = .next t ∧ t = { s with uplinks := t.uplinks }
        ∧ ∀ v, t.uplink v = if v = u then { x with losPin := true, rawLos := true } else s.uplink v)
    ∧ (x.rawLos = true → x.monitored = false →
      ∃ t, exec (.losDeassert u) s = .next t ∧ t = { s with uplinks := t.uplinks }
        ∧ ∀ v, t.uplink v = if v = u then { x with losPin := false, rawLos := false } else s.uplink v)

/-- R4, R5: the expiries of the two qualify timers. Elapsed time moves on to the expiry (log entry 2); an expiry
commanded for a stopped timer changes nothing (log entry 1). -/
def Obligations.QualifyExpiriesSetQualifiedLos : Prop :=
  ∀ (u : Uplink) (s : State), s.resetHeld = false →
    let x := s.uplink u
    (∀ e, x.lossTimer = some e →
      ∃ t h ho wr, exec (.lossQualifyExpiry u) s = .next t ∧ s.SameBeyondUplinks t
        ∧ t.fwd = s.fwd ∧ t.control = s.control ∧ s.TimeReaches t e
        ∧ s.UplinkBecomes t u
          { x with
            qualLos := true, lossTimer := none,
            latches := { x.latches with los := x.latches.los || !x.qualLos },
            health := h, holdOffTimer := ho, restoreTimer := wr })
    ∧ (∀ e, x.lightTimer = some e →
      ∃ t h ho wr, exec (.lightQualifyExpiry u) s = .next t ∧ s.SameBeyondUplinks t
        ∧ t.fwd = s.fwd ∧ t.control = s.control ∧ s.TimeReaches t e
        ∧ s.UplinkBecomes t u
          { x with qualLos := false, lightTimer := none, health := h, holdOffTimer := ho, restoreTimer := wr })
    ∧ (x.lossTimer = none → exec (.lossQualifyExpiry u) s = .next s)
    ∧ (x.lightTimer = none → exec (.lightQualifyExpiry u) s = .next s)

/-- R13 to R18, R21, and the table of section 1.5.1: whatever event changes an uplink's defect set, its health and its
two timers end as the table says; the events the step hands to the queue are the DEGRADE event of a change of the
degraded flag, the health event of the transition, and the CONDUIT events, in that order (R47, R48, R53, R60; log
entries 13 and 16), each enqueued in turn, in room or at a full queue (R151, R152). A PROBE-IN on a
DOWN link first brings the link UP (`ValidRecordsKeepTheLinkUp`). -/
def Obligations.ProtectionMachineFollowsItsTable : Prop :=
  ∀ (u : Uplink) (c : Instr) (s : State), s.resetHeld = false → UplinksSound s →
    (c = .losAssert u ∨ c = .losDeassert u ∨ c = .lossQualifyExpiry u ∨ c = .lightQualifyExpiry u
      ∨ c = .continuityDeadlineExpiry u ∨ (∃ r, c = .probeInReceived r ∧ r.probeUplink = u)
      ∨ ∃ tag f, c = .setUplink tag f ∧ s.PortFree ∧ judgeUplink f.uplink = some u) →
    ∃ t, exec c s = .next t ∧ (s.uplink u).FollowsTable (t.uplink u) t.clock.now
      ∧ ((∀ r, c = .probeInReceived r → s.fwd.linkUp = true ∧ r.classify = .valid .probeIn) →
          s.Queues t u (s.degradeReport t u ++ s.healthReport t u))

/-- R16, R18, R53, R60: the judgement at the hold-off expiry, and the return to UP at the wait-to-restore expiry, with
the health event first of the step's events, and after it the CONDUIT event of a change of the tripped flag (log entry 16
for its set), or none. Log entries 1 and 2 for the time and for a stopped timer. -/
def Obligations.JudgementExpiriesDecideHealth : Prop :=
  ∀ (u : Uplink) (s : State), s.resetHeld = false →
    let x := s.uplink u
    (∀ e, x.holdOffTimer = some e →
      ∃ t, exec (.holdOffExpiry u) s = .next t ∧ s.SameBeyondUplinks t
        ∧ t.fwd = s.fwd ∧ t.control = s.control ∧ s.TimeReaches t e
        ∧ s.UplinkBecomes t u
          { x with holdOffTimer := none, health := if x.defects.present then .down else .up }
        ∧ s.Queues t u [if x.defects.present then .uplinkDown u x.defects else .uplinkUp u .rideThrough])
    ∧ (∀ e, x.restoreTimer = some e →
      ∃ t, exec (.waitToRestoreExpiry u) s = .next t ∧ s.SameBeyondUplinks t
        ∧ t.fwd = s.fwd ∧ t.control = s.control ∧ s.TimeReaches t e
        ∧ s.UplinkBecomes t u { x with restoreTimer := none, health := .up }
        ∧ s.Queues t u [.uplinkUp u .restored])
    ∧ (x.holdOffTimer = none → exec (.holdOffExpiry u) s = .next s)
    ∧ (x.restoreTimer = none → exec (.waitToRestoreExpiry u) s = .next s)

/-- R19: FORCE-RESTORE in RESTORING, in any other health, and on an uplink number above 15. -/
def Obligations.ForceRestoreOnlyFromRestoring : Prop :=
  ∀ (tag b : Byte) (s : State), s.PortFree →
    (∀ u : Uplink, b.toNat = u.val →
      ((s.uplink u).health = .restoring →
        ∃ t, exec (.forceRestore tag b) s = .next t ∧ s.SameBeyondUplinks t ∧ t.fwd = s.fwd ∧ t.clock = s.clock
          ∧ s.Answers t 0x13#8 tag (.ok false [])
          ∧ s.UplinkBecomes t u { s.uplink u with restoreTimer := none, health := .up }
          ∧ s.Queues t u [.uplinkUp u .forced])
      ∧ ((s.uplink u).health ≠ .restoring →
        ∃ t, exec (.forceRestore tag b) s = .next t ∧ t = { s with control := t.control }
          ∧ s.Answers t 0x13#8 tag (.wrongState (s.uplink u).health)))
    ∧ (15 < b.toNat →
        ∃ t, exec (.forceRestore tag b) s = .next t ∧ t = { s with control := t.control }
          ∧ s.Answers t 0x13#8 tag (.invalid .uplink none))

/-! ### SET-ADMIN, CLEAR-LATCH -/

/-- R10 (with R7, R14, R28, R31): a DISABLED uplink enabled, with probing off and with probing on. -/
def Obligations.EnablingEntersTheMachine : Prop :=
  ∀ (tag b mode : Byte) (u : Uplink) (m : AdminMode) (s : State), s.PortFree → b.toNat = u.val →
    (s.uplink u).HealthSound → (s.uplink u).FilterSound → (s.uplink u).admin = .disabled →
    (mode = 0#8 ∧ m = .active ∨ mode = 1#8 ∧ m = .drain) →
    let x := s.uplink u
    (x.settings.multiplier = 0 → x.continuity = .inactive →
      ∃ t h wr, exec (.setAdmin tag b mode) s = .next t ∧ s.SameBeyondUplinks t ∧ t.fwd = s.fwd ∧ t.clock = s.clock
        ∧ s.UplinkBecomes t u
          { x with
            admin := m, qualLos := x.rawLos, health := h, restoreTimer := wr,
            latches := { x.latches with los := x.latches.los || x.rawLos } }
        ∧ s.Answers t 0x12#8 tag (.ok false [m.code, h.code])
        ∧ (x.rawLos = true → h = .start ∧ wr = none ∧ s.Queues t u [])
        ∧ (x.rawLos = false → x.settings.waitToRestore = 0 → h = .up ∧ wr = none
            ∧ s.Queues t u [.uplinkUp u .start])
        ∧ (x.rawLos = false → x.settings.waitToRestore ≠ 0 → h = .restoring
            ∧ wr = some (s.clock.now + x.settings.waitToRestore * 1000000)
            ∧ s.Queues t u [.uplinkRestoring u .start]))
    ∧ (x.settings.multiplier ≠ 0 →
      let emits := x.settings.phase = 0
      ∃ t, exec (.setAdmin tag b mode) s = .next t ∧ s.SameBeyondUplinks t ∧ t.clock = s.clock
        ∧ s.UplinkBecomes t u
          { x with
            admin := m, qualLos := x.rawLos, health := .start,
            latches := { x.latches with los := x.latches.los || x.rawLos },
            outSeq := if emits then 1#8 else 0#8, lastAccepted := none, errored := 0, continuity := .notEstablished,
            deadline := .stopped, rdi := false, window := [], degraded := false,
            clock := .running s.clock.now (if emits then 1 else 0) }
        ∧ t.fwd = { s.fwd with probes :=
            if emits ∧ s.fwd.linkUp = true then
              s.fwd.probes.filter (fun y => y.uplink ≠ u) ++ [{ uplink := u, seq := 0#8, rdi := true }]
            else s.fwd.probes }
        ∧ s.Answers t 0x12#8 tag (.ok false [m.code, 1#8])
        ∧ s.Queues t u [])

/-- R9 (with R7, R30): a monitored uplink set to DISABLED; R11: between ACTIVE and DRAIN, and the mode already held;
R171: the refusals. -/
def Obligations.SetAdminDisablesAndSwitches : Prop :=
  ∀ (tag b mode : Byte) (s : State), s.PortFree →
    (∀ u : Uplink, b.toNat = u.val →
      let x := s.uplink u
      (mode = 2#8 → x.monitored = true → x.ProbeSound → x.DeadlineSound s.fwd.linkUp →
        ∃ t, exec (.setAdmin tag b mode) s = .next t ∧ s.SameBeyondUplinks t ∧ t.fwd = s.fwd ∧ t.clock = s.clock
          ∧ s.UplinkBecomes t u
            { x with
              admin := .disabled, health := .idle, holdOffTimer := none, restoreTimer := none,
              qualLos := false, lossTimer := none, lightTimer := none, clock := .stopped, deadline := .stopped,
              continuity := .inactive, rdi := false, window := [], degraded := false, lastAccepted := none,
              errored := 0 }
          ∧ s.Answers t 0x12#8 tag (.ok false [2#8, 0#8])
          ∧ s.Queues t u [])
      ∧ (∀ m, (mode = 0#8 ∧ m = AdminMode.active ∨ mode = 1#8 ∧ m = AdminMode.drain) → x.monitored = true →
          x.admin ≠ m →
          ∃ t, exec (.setAdmin tag b mode) s = .next t ∧ s.SameBeyondUplinks t ∧ t.fwd = s.fwd ∧ t.clock = s.clock
            ∧ s.UplinkBecomes t u { x with admin := m } ∧ s.Answers t 0x12#8 tag (.ok false [m.code, x.health.code])
            ∧ s.Queues t u [])
      ∧ (mode = x.admin.code →
          ∃ t, exec (.setAdmin tag b mode) s = .next t ∧ t = { s with control := t.control }
            ∧ s.Answers t 0x12#8 tag (.ok false [x.admin.code, x.health.code]))
      ∧ (2 < mode.toNat →
          ∃ t, exec (.setAdmin tag b mode) s = .next t ∧ t = { s with control := t.control }
            ∧ s.Answers t 0x12#8 tag (.invalid .mode none)))
    ∧ (15 < b.toNat →
        ∃ t, exec (.setAdmin tag b mode) s = .next t ∧ t = { s with control := t.control }
          ∧ s.Answers t 0x12#8 tag (.invalid .uplink none))

/-- R23: each latch whose live source is absent is cleared, the others stay, and the reply lists them. -/
def Obligations.ClearLatchKeepsLiveSources : Prop :=
  ∀ (tag b : Byte) (s : State), s.PortFree →
    (∀ u : Uplink, b.toNat = u.val →
      let x := s.uplink u
      ∃ t los cont rdi sd, exec (.clearLatch tag b) s = .next t
        ∧ (los = true ↔ x.latches.los = true ∧ x.qualLos = true)
        ∧ (cont = true ↔ x.latches.cont = true ∧ x.continuity = .lost)
        ∧ (rdi = true ↔ x.latches.rdi = true ∧ x.rdi = true)
        ∧ (sd = true ↔ x.latches.sd = true ∧ x.degraded = true)
        ∧ t = { s with uplinks := t.uplinks, control := t.control }
        ∧ (∀ v, t.uplink v = if v = u then { x with latches := { los, cont, rdi, sd } } else s.uplink v)
        ∧ s.Answers t 0x14#8 tag
            (.ok false [byte (los.toNat + 2 * cont.toNat + 4 * rdi.toNat + 8 * sd.toNat)]))
    ∧ (15 < b.toNat →
        ∃ t, exec (.clearLatch tag b) s = .next t ∧ t = { s with control := t.control }
          ∧ s.Answers t 0x14#8 tag (.invalid .uplink none))

/-! ### Probing (chapter 2) -/

/-- R32, R33, R143: an emission carries the present sequence and the local defect, waits in the probe list in place of
an earlier probe of its uplink while the link is UP, is not kept while it is DOWN, and the sequence advances either
way. Elapsed time moves on to the emission time (log entry 2). -/
def Obligations.ProbeEmissionAdvancesTheSequence : Prop :=
  ∀ (u : Uplink) (s : State), s.resetHeld = false →
    let x := s.uplink u
    (∀ start k, x.clock = .running start k →
      ∃ t rdi, exec (.probeEmission u) s = .next t
        ∧ (rdi = true ↔ x.qualLos = true ∨ x.continuity = .lost ∨ x.continuity = .notEstablished)
        ∧ t = { s with clock := t.clock, uplinks := t.uplinks, fwd := { s.fwd with probes := t.fwd.probes } }
        ∧ s.TimeReaches t (start + x.settings.phase * 1000 + k * (x.settings.interval * 1000))
        ∧ (∀ v, t.uplink v =
            if v = u then { x with outSeq := x.outSeq + 1#8, clock := .running start (k + 1) } else s.uplink v)
        ∧ t.fwd.probes =
            if s.fwd.linkUp then
              s.fwd.probes.filter (fun y => y.uplink ≠ u) ++ [{ uplink := u, seq := x.outSeq, rdi }]
            else s.fwd.probes)
    ∧ (x.clock = .stopped → exec (.probeEmission u) s = .next s)

/-- R34, R35: an ERRORED arrival on an ESTABLISHED uplink refreshes the deadline, pushes ERRORED, counts, and
re-evaluates the degraded flag; on any other it is ignored, as is any arrival on an uplink that does not probe. R47,
R48: the events handed to the queue are the DEGRADE event of a change of the flag, then the health event, then the
CONDUIT events. -/
def Obligations.ErroredArrivalsKeepContinuity : Prop :=
  ∀ (r : Record) (s : State), s.resetHeld = false → s.fwd.linkUp = true → r.classify = .valid .probeIn →
    let u := r.probeUplink
    let x := s.uplink u
    let restarted := s.silenceRestarted
    (x.probing = true → x.ProbeSound → x.continuity = .established → ¬ (r.b4 = ~~~r.b2 ∧ r.b5 = ~~~r.b3) →
      let w := (x.window ++ [ProbeOutcome.errored]).drop (x.window.length + 1 - 32)
      let n := w.countP fun o => o ≠ ProbeOutcome.good
      ∃ t d h ho wr, exec (.probeInReceived r) s = .next t ∧ s.SameBeyondUplinks t ∧ t.clock = s.clock
        ∧ t.control = s.control ∧ t.fwd = restarted
        ∧ (x.degraded = false → (d = true ↔ x.settings.setThreshold ≠ 0 ∧ x.settings.setThreshold ≤ n))
        ∧ (x.degraded = true → (d = false ↔ n ≤ x.settings.clearThreshold))
        ∧ s.UplinkBecomes t u
          { x with
            deadline := .running (s.clock.now + x.settings.multiplier * x.settings.interval * 1000),
            window := w, errored := min 255 (x.errored + 1), degraded := d,
            latches := { x.latches with sd := x.latches.sd || (!x.degraded && d) },
            health := h, holdOffTimer := ho, restoreTimer := wr }
        ∧ s.Queues t u
            ((if x.degraded = false ∧ d = true then [.degradeSet u x.settings.policy n w.length]
              else if x.degraded = true ∧ d = false then [.degradeClear u n w.length] else [])
              ++ s.healthReport t u))
    ∧ (x.probing = false ∨ (x.continuity ≠ .established ∧ ¬ (r.b4 = ~~~r.b2 ∧ r.b5 = ~~~r.b3)) →
        exec (.probeInReceived r) s = .next { s with fwd := restarted })

/-- R36 to R39, R43, R44, R45: a good arrival is accepted as a new base, accepted in the window with its gap's MISSED
outcomes, or stale. R47, R48: the events handed to the queue are the DEGRADE event of a change of the flag, then the
health event, then the CONDUIT events. -/
def Obligations.GoodArrivalsAreJudgedByTheirGap : Prop :=
  ∀ (r : Record) (s : State), s.resetHeld = false → s.fwd.linkUp = true → r.classify = .valid .probeIn →
    let u := r.probeUplink
    let x := s.uplink u
    let restarted := s.silenceRestarted
    x.probing = true → x.ProbeSound → r.b4 = ~~~r.b2 → r.b5 = ~~~r.b3 →
    (∀ pushed : List ProbeOutcome,
      ((x.continuity ≠ .established ∨ x.lastAccepted = none) ∧ pushed = [.good]
        ∨ x.continuity = .established ∧ ∃ a g, x.lastAccepted = some a ∧ g = (r.b2 - a).toNat ∧ 1 ≤ g ∧ g ≤ 127
            ∧ pushed = List.replicate (g - 1 - x.errored) .missed ++ [.good]) →
      let w := (x.window ++ pushed).drop (x.window.length + pushed.length - 32)
      let n := w.countP fun o => o ≠ ProbeOutcome.good
      let flag := r.b3.getLsbD 0
      ∃ t d h ho wr, exec (.probeInReceived r) s = .next t ∧ s.SameBeyondUplinks t ∧ t.clock = s.clock
        ∧ t.control = s.control ∧ t.fwd = restarted
        ∧ (x.degraded = false → (d = true ↔ x.settings.setThreshold ≠ 0 ∧ x.settings.setThreshold ≤ n))
        ∧ (x.degraded = true → (d = false ↔ n ≤ x.settings.clearThreshold))
        ∧ s.UplinkBecomes t u
          { x with
            continuity := .established,
            deadline := .running (s.clock.now + x.settings.multiplier * x.settings.interval * 1000),
            lastAccepted := some r.b2, errored := 0, window := w, rdi := flag, degraded := d,
            latches := { x.latches with
              rdi := x.latches.rdi || (!x.rdi && flag), sd := x.latches.sd || (!x.degraded && d) },
            health := h, holdOffTimer := ho, restoreTimer := wr }
        ∧ s.Queues t u
            ((if x.degraded = false ∧ d = true then [.degradeSet u x.settings.policy n w.length]
              else if x.degraded = true ∧ d = false then [.degradeClear u n w.length] else [])
              ++ s.healthReport t u))
    ∧ (∀ a, x.continuity = .established → x.lastAccepted = some a →
        (r.b2 - a).toNat = 0 ∨ 128 ≤ (r.b2 - a).toNat →
        exec (.probeInReceived r) s = .next { s with fwd := restarted })

/-- R40, R48: the expiry of a running deadline loses continuity; on an UP uplink the events are DEGRADE-CLEAR, if the
degraded flag was set, then the health event of R15. R41: a deadline that does not run does not expire. The counts a
DEGRADE-CLEAR carries here are log entry 13's. -/
def Obligations.DeadlineExpiryLosesContinuity : Prop :=
  ∀ (u : Uplink) (s : State), s.resetHeld = false →
    let x := s.uplink u
    (∀ e, x.deadline = .running e → x.continuity = .established →
      ∃ t h ho wr, exec (.continuityDeadlineExpiry u) s = .next t ∧ s.SameBeyondUplinks t
        ∧ t.fwd = s.fwd ∧ t.control = s.control ∧ s.TimeReaches t e
        ∧ s.UplinkBecomes t u
          { x with
            continuity := .lost, deadline := .stopped, rdi := false, window := [], errored := 0,
            lastAccepted := none, degraded := false, latches := { x.latches with cont := true },
            health := h, holdOffTimer := ho, restoreTimer := wr }
        ∧ (x.HealthSound → x.health = .up → x.probing = true →
            let lost : Defects := { los := false, cont := true, rdi := false, sd := false }
            s.Queues t u ((if x.degraded then [.degradeClear u 0 0] else [])
              ++ [if x.settings.holdOff = 0 then .uplinkDown u lost else .uplinkHoldoff u lost])))
    ∧ ((x.deadline = .stopped ∨ x.deadline = .suspended) → exec (.continuityDeadlineExpiry u) s = .next s)

/-! ### SET-UPLINK, SET-CONDUIT -/

/-- R170 with R8, R20, R49, R56: the three refusals in their order; else the eleven settings written, each at its
nearest bound, the reply reporting them with the health and usable flag after the step, no running timer of the
filter moved, and on a DISABLED uplink nothing else of it changed. The widths of the reply are log entry 12, its conduit
byte log entry 15, and a clear threshold that raises no CLAMPED flag log entry 26. -/
def Obligations.SetUplinkWritesClampedSettings : Prop :=
  ∀ (tag : Byte) (f : UplinkFields) (s : State), s.PortFree →
    (15 < f.uplink.toNat →
      ∃ t, exec (.setUplink tag f) s = .next t ∧ t = { s with control := t.control }
        ∧ s.Answers t 0x10#8 tag (.invalid .uplink none))
    ∧ (f.uplink.toNat ≤ 15 → 7 < f.conduit.toNat → f.conduit ≠ 0xFF#8 →
      ∃ t, exec (.setUplink tag f) s = .next t ∧ t = { s with control := t.control }
        ∧ s.Answers t 0x10#8 tag (.invalid .conduit none))
    ∧ (f.uplink.toNat ≤ 15 → (f.conduit.toNat ≤ 7 ∨ f.conduit = 0xFF#8) → 1 < f.policy.toNat →
      ∃ t, exec (.setUplink tag f) s = .next t ∧ t = { s with control := t.control }
        ∧ s.Answers t 0x10#8 tag (.invalid .mode none))
    ∧ ∀ (u : Uplink) (c : Option Conduit) (p : Policy), f.uplink.toNat = u.val →
      (f.conduit = 0xFF#8 ∧ c = none ∨ ∃ d : Conduit, f.conduit.toNat = d.val ∧ c = some d) →
      (f.policy = 0#8 ∧ p = .report ∨ f.policy = 1#8 ∧ p = .fail) →
      let interval := max 1 (min 250 f.interval.toNat)
      let multiplier := if f.multiplier.toNat = 1 then 2 else min 15 f.multiplier.toNat
      let threshold := min 32 f.setThreshold.toNat
      let new : Settings :=
        { conduit := c, lossQualify := min 1000 f.lossQualify.toNat, lightQualify := min 1000 f.lightQualify.toNat,
          holdOff := min 10000 f.holdOff.toNat, waitToRestore := min 3600 f.waitToRestore.toNat, interval,
          phase := min (interval - 1) f.phase.toNat, multiplier, setThreshold := threshold,
          clearThreshold := if threshold = 0 then 0 else min (threshold - 1) f.clearThreshold.toNat, policy := p }
      ∃ t clamped, exec (.setUplink tag f) s = .next t ∧ s.SameBeyondUplinks t ∧ t.clock = s.clock
        ∧ t.fwd = { s.fwd with probes := t.fwd.probes }
        ∧ (t.uplink u).settings = new
        ∧ ((s.uplink u).monitored = false → t.fwd = s.fwd
            ∧ ∃ a b, t.uplink u = { s.uplink u with settings := new, shunned := a, usable := b })
        ∧ (∀ v, v ≠ u → ∃ a b, t.uplink v = { s.uplink v with shunned := a, usable := b })
        ∧ (t.uplink u).losPin = (s.uplink u).losPin ∧ (t.uplink u).rawLos = (s.uplink u).rawLos
        ∧ (t.uplink u).qualLos = (s.uplink u).qualLos ∧ (t.uplink u).lossTimer = (s.uplink u).lossTimer
        ∧ (t.uplink u).lightTimer = (s.uplink u).lightTimer ∧ (t.uplink u).admin = (s.uplink u).admin
        ∧ (clamped = false ↔
            new.lossQualify = f.lossQualify.toNat ∧ new.lightQualify = f.lightQualify.toNat
              ∧ new.holdOff = f.holdOff.toNat ∧ new.waitToRestore = f.waitToRestore.toNat
              ∧ new.interval = f.interval.toNat ∧ new.phase = f.phase.toNat ∧ new.multiplier = f.multiplier.toNat
              ∧ new.setThreshold = f.setThreshold.toNat
              ∧ (f.setThreshold.toNat ≠ 0 → new.clearThreshold = f.clearThreshold.toNat))
        ∧ s.Answers t 0x10#8 tag (.ok clamped
            ([f.conduit] ++ be16 new.lossQualify ++ be16 new.lightQualify ++ be16 new.holdOff
              ++ be16 new.waitToRestore ++ [byte new.interval, byte new.phase, byte new.multiplier,
                byte new.setThreshold, byte new.clearThreshold, f.policy, (t.uplink u).health.code,
                if (t.uplink u).usable then 1#8 else 0#8]))

/-- R29 to R31: SET-UPLINK begins probing on a monitored uplink (with the grace period, or NOT-ESTABLISHED in START),
ends it, or restarts the probe clock exactly when the interval or phase held changes; a PROBE-OUT due at the start is
formed in the same step, with the sequence and the RDI flag of R32 and R33, and waits in the probe list if the link is
UP (R143). A multiplier of 0 that stays 0 leaves the probe state and the forwarding port alone, whatever the other
settings become (R27, R49). R46: a changed threshold re-evaluates the degraded flag of an uplink that probes. R22: of the
latches only SD-SEEN can change, and it sets where the degraded flag does. R47, R48, R53: the events handed to the queue
are the DEGRADE event of a change of the flag (log entry 13 for its counts when probing ends), then the health event,
then the CONDUIT events. -/
def Obligations.SetUplinkStartsAndEndsProbing : Prop :=
  ∀ (tag : Byte) (f : UplinkFields) (u : Uplink) (s : State), s.PortFree → f.uplink.toNat = u.val →
    (f.conduit = 0xFF#8 ∨ f.conduit.toNat ≤ 7) → f.policy.toNat ≤ 1 → (s.uplink u).monitored = true →
    let x := s.uplink u
    ∃ t, exec (.setUplink tag f) s = .next t ∧
      let y := t.uplink u
      let emits := y.settings.phase = 0
      let rdi := x.qualLos || decide (y.continuity = .lost ∨ y.continuity = .notEstablished)
      let others := s.fwd.probes.filter fun z => z.uplink ≠ u
      let sent : FwdState :=
        if emits ∧ s.fwd.linkUp = true then
          { s.fwd with probes := others ++ [{ uplink := u, seq := x.outSeq, rdi }] }
        else s.fwd
      let n := y.window.countP fun o => o ≠ ProbeOutcome.good
      let kept := y.settings.setThreshold = x.settings.setThreshold
        ∧ y.settings.clearThreshold = x.settings.clearThreshold
      s.Queues t u (s.degradeReport t u ++ s.healthReport t u)
      ∧ y.latches = { x.latches with sd := x.latches.sd || (!x.degraded && y.degraded) }
      ∧ (x.settings.multiplier = 0 → f.multiplier = 0#8 →
        y.clock = x.clock ∧ y.outSeq = x.outSeq ∧ y.lastAccepted = x.lastAccepted ∧ y.errored = x.errored
          ∧ y.continuity = x.continuity ∧ y.deadline = x.deadline ∧ y.rdi = x.rdi ∧ y.window = x.window
          ∧ y.degraded = x.degraded ∧ t.fwd = s.fwd)
      ∧ (x.settings.multiplier = 0 → f.multiplier ≠ 0#8 →
        y.lastAccepted = none ∧ y.errored = 0 ∧ y.rdi = false ∧ y.window = [] ∧ y.degraded = false
          ∧ y.clock = .running s.clock.now (if emits then 1 else 0)
          ∧ y.outSeq = (if emits then x.outSeq + 1#8 else x.outSeq) ∧ t.fwd = sent
          ∧ (x.health = .start → y.continuity = .notEstablished ∧ y.deadline = .stopped)
          ∧ (x.health ≠ .start → y.continuity = .established
              ∧ y.deadline = if s.fwd.linkUp then
                  .running (s.clock.now + y.settings.multiplier * y.settings.interval * 1000) else .suspended))
      ∧ (x.settings.multiplier ≠ 0 → f.multiplier = 0#8 →
        y.clock = .stopped ∧ y.deadline = .stopped ∧ y.continuity = .inactive ∧ y.rdi = false ∧ y.window = []
          ∧ y.degraded = false ∧ y.lastAccepted = none ∧ y.errored = 0 ∧ y.outSeq = x.outSeq ∧ t.fwd = s.fwd)
      ∧ (x.settings.multiplier ≠ 0 → f.multiplier ≠ 0#8 →
        y.continuity = x.continuity ∧ y.deadline = x.deadline ∧ y.rdi = x.rdi ∧ y.window = x.window
          ∧ y.lastAccepted = x.lastAccepted ∧ y.errored = x.errored
          ∧ (kept → y.degraded = x.degraded)
          ∧ (¬ kept → x.degraded = false →
              (y.degraded = true ↔ y.settings.setThreshold ≠ 0 ∧ y.settings.setThreshold ≤ n))
          ∧ (¬ kept → x.degraded = true →
              (y.degraded = false ↔ y.settings.setThreshold = 0 ∨ n ≤ y.settings.clearThreshold))
          ∧ (y.settings.interval = x.settings.interval → y.settings.phase = x.settings.phase →
              y.clock = x.clock ∧ y.outSeq = x.outSeq ∧ t.fwd = s.fwd)
          ∧ (y.settings.interval ≠ x.settings.interval ∨ y.settings.phase ≠ x.settings.phase →
              y.clock = .running s.clock.now (if emits then 1 else 0)
                ∧ y.outSeq = (if emits then x.outSeq + 1#8 else x.outSeq) ∧ t.fwd = sent))

/-- R57, R58, R59: SET-CONDUIT writes the trip count at its nearest bound, evaluates the conduit and its members in the
same command, and reports the conduit as it then stands (order and widths of the items: log entry 12). R60: a
change of the tripped flag hands the CONDUIT event with its items to the queue, and no change hands it none. -/
def Obligations.SetConduitEvaluatesTheConduit : Prop :=
  ∀ (tag b trip : Byte) (s : State), s.PortFree →
    (∀ c : Conduit, b.toNat = c.val →
      let n := min 8 trip.toNat
      ∃ t, exec (.setConduit tag b trip) s = .next t ∧ s.SameElsewhereThanConduit t c
        ∧ (t.conduit c).tripCount = n
        ∧ ((t.conduit c).tripped = true ↔ n ≠ 0 ∧ n ≤ s.downCount c)
        ∧ (∀ u, ∃ a b, t.uplink u = { s.uplink u with shunned := a, usable := b })
        ∧ (∀ u, (s.uplink u).settings.conduit = some c →
            ((t.uplink u).shunned = true ↔
              (s.uplink u).monitored = true ∧ (s.uplink u).health ≠ .down ∧ n ≠ 0 ∧ n ≤ s.downCount c))
        ∧ (∀ u, (s.uplink u).settings.conduit ≠ some c → t.uplink u = s.uplink u)
        ∧ s.Hands t (s.conduitReport t c)
        ∧ s.Answers t 0x15#8 tag (.ok (decide (8 < trip.toNat))
            ([byte n] ++ setBytes (Vector.ofFn fun u => decide ((s.uplink u).settings.conduit = some c))
              ++ [byte (s.downCount c), if (t.conduit c).tripped then 1#8 else 0#8]
              ++ setBytes (Vector.ofFn fun u =>
                  decide ((s.uplink u).settings.conduit = some c) && (t.uplink u).shunned))))
    ∧ (7 < b.toNat →
        ∃ t, exec (.setConduit tag b trip) s = .next t ∧ t = { s with control := t.control }
          ∧ s.Answers t 0x15#8 tag (.invalid .conduit none))

/-! ### Reports -/

/-- R168: IDENTIFY's reply, in the layout of section 11.3, and no other change. -/
def Obligations.IdentifyReportsTheCapacities : Prop :=
  ∀ (tag : Byte) (s : State), s.PortFree →
    ∃ t, exec (.identify tag) s = .next t ∧ t = { s with control := t.control }
      ∧ s.Answers t 0x01#8 tag (.ok false
          [0x00#8, 0x16#8, 0#8, 16#8, 8#8, 0x04#8, 0x00#8, 2#8, 8#8, 64#8, 4#8, 16#8, 64#8, 8#8, 0x02#8, 0x00#8])

/-- R169 with R74, R117, R147, R160: GET-STATUS reports one reading and clears the two error counts, nothing else; taken
at its arrival, and taken from the queue when the reply before it has been sent (R165), with the commands that still wait
counted. That second clause rests on R165 and on the model's choices: a waiting command is taken in the step of the
REPLY_SENT that allows it (log entry 4), that row is the end of the reply (log entry 18), and `ctx` shows the reply (log
entry 8); so the basis is derived. -/
def Obligations.GetStatusReportsAndClearsErrorCounts : Prop :=
  ∀ (tag : Byte) (s : State),
    let flag (b : Bool) : Byte := if b then 1#8 else 0#8
    let remaining := if s.plans.swapInFlight then
      ((List.finRange 1024).filter fun g => (s.group g).selector = s.plans.active).length else 0
    let items (waiting : List TaggedCommand) := Word.bytes s.clock.seconds ++ be32 s.clock.micros
      ++ [(match s.plans.active with | .A => 0#8 | .B => 1#8), flag s.plans.swapInFlight] ++ be16 remaining
      ++ be16 s.sweep.dirty.length
      ++ [flag s.fwd.linkUp, byte s.fwd.headerErrors, byte s.events.records.length, flag s.events.lost,
        flag s.events.alert, byte s.control.frameErrors, byte waiting.length]
    let answer (waiting : List TaggedCommand) : Reply := { type := 0x02#8, tag, body := .ok false (items waiting) }
    (s.PortFree → exec (.getStatus tag) s = .next { s with
      fwd := { s.fwd with headerErrors := 0 },
      control := { s.control with frameErrors := 0, replies := [answer []] } })
    ∧ ∀ r waiting, s.resetHeld = false → s.control.inHand = none → s.control.replies = [r] →
      s.control.queue = { tag, command := .getStatus } :: waiting →
      exec .replySent s = .next { s with
        fwd := { s.fwd with headerErrors := 0 },
        control := { s.control with frameErrors := 0, queue := waiting, ctx := some r, replies := [answer waiting] } }

/-- R171 with R26, R51, R63: GET-UPLINK reports one reading in the order of the three rules and changes nothing. The
widths R179 leaves to inference are log entries 12 and 15, the window's length byte is log entry 27, and a time
remaining of 0 for a timer whose moment has passed is log entry 24. -/
def Obligations.GetUplinkReportsOneReading : Prop :=
  ∀ (tag b : Byte) (s : State), s.PortFree →
    let flag (b : Bool) : Byte := if b then 1#8 else 0#8
    let rounded (e : Option Nat) : List Byte := be32 (match e with
      | some t => (t - s.clock.now + 999) / 1000
      | none => 0)
    (∀ u : Uplink, b.toNat = u.val →
      let x := s.uplink u
      ∃ t, exec (.getUplink tag b) s = .next t ∧ t = { s with control := t.control }
        ∧ s.Answers t 0x11#8 tag (.ok false
          ([x.admin.code, x.health.code, flag x.rawLos, flag x.qualLos,
              if x.lossTimer.isSome then 1#8 else if x.lightTimer.isSome then 2#8 else 0#8,
              byte (x.defects.los.toNat + 2 * x.defects.cont.toNat + 4 * x.defects.rdi.toNat + 8 * x.defects.sd.toNat),
              byte (x.latches.los.toNat + 2 * x.latches.cont.toNat + 4 * x.latches.rdi.toNat + 8 * x.latches.sd.toNat)]
            ++ be16 x.settings.lossQualify ++ be16 x.settings.lightQualify ++ be16 x.settings.holdOff
            ++ be16 x.settings.waitToRestore ++ [x.settings.policy.code]
            ++ rounded (x.holdOffTimer.or x.restoreTimer)
            ++ [flag x.probing, byte x.settings.interval, byte x.settings.phase, byte x.settings.multiplier,
              byte x.settings.setThreshold, byte x.settings.clearThreshold, x.outSeq]
            ++ (match x.lastAccepted with | some a => [1#8, a] | none => [0#8, 0#8])
            ++ [byte x.errored, x.continuity.code]
            ++ (match x.deadline with
                | .stopped => 0#8 :: rounded none
                | .running e => 1#8 :: rounded (some e)
                | .suspended => 2#8 :: rounded none)
            ++ [flag x.rdi] ++ [byte x.window.length] ++ x.window.map ProbeOutcome.code
            ++ [byte (x.window.countP fun o => o ≠ .good), flag x.degraded]
            ++ [(match x.settings.conduit with | some c => byte c.val | none => 0xFF#8), flag x.shunned, flag x.usable,
              if x.usable then 0#8 else
                byte ((decide (x.admin ≠ .active)).toNat
                  + 2 * (decide (x.health ≠ .up ∧ x.health ≠ .holdoff)).toNat + 4 * x.shunned.toNat
                  + 8 * (decide (x.degraded = true ∧ x.settings.policy = .fail)).toNat)])))
    ∧ (15 < b.toNat →
        ∃ t, exec (.getUplink tag b) s = .next t ∧ t = { s with control := t.control }
          ∧ s.Answers t 0x11#8 tag (.invalid .uplink none))

/-! ### Plans and the swap (chapter 4) -/

/-- R67, R69, R70, R71: outside a swap a sound WRITE-PLAN, a CLEAR-PLAN and a COPY-ACTIVE write the shadow bank and
nothing else. The order and widths of the reply items are log entry 12. -/
def Obligations.BankWritesWriteTheShadow : Prop :=
  ∀ (tag : Byte) (s : State), s.PortFree → s.plans.swapInFlight = false →
    let shadow : Bank := match s.plans.active with | .A => .B | .B => .A
    let code : Byte := match s.plans.active with | .A => 1#8 | .B => 0#8
    (∀ (f : PlanFields) (g : Group), f.group.toNat = g.val → f.members.length ≤ 8 →
      (∀ m ∈ f.members, m.1.toNat ≤ 15 ∧ 1 ≤ m.2.toNat ∧ m.2.toNat ≤ 15) → (f.members.map (·.1)).Nodup →
      f.fold.toNat ≤ 1 → f.revert.toNat ≤ 1 → f.emptyAction.toNat ≤ 1 →
      (f.fallback = 0xFFFF#16 ∨ (f.fallback.toNat < 1024 ∧ f.fallback ≠ f.group)) →
      ∃ t p, exec (.writePlan tag f) s = .next t ∧ t = { s with plans := t.plans, control := t.control }
        ∧ t.plans.active = s.plans.active ∧ t.plans.swapInFlight = false ∧ s.SameRecords t s.plans.active
        ∧ (∀ k, t.planIn shadow k = if k = g then p else s.planIn shadow k)
        ∧ p.members.map (fun m => (m.uplink.val, m.weight)) = f.members.map (fun m => (m.1.toNat, m.2.toNat))
        ∧ (p.fold = .fold ↔ f.fold = 1#8) ∧ (p.revert = .nonRevertive ↔ f.revert = 1#8)
        ∧ (p.emptyAction = .discard ↔ f.emptyAction = 1#8)
        ∧ p.fallback.map (·.val) = (if f.fallback = 0xFFFF#16 then none else some f.fallback.toNat)
        ∧ s.Answers t 0x20#8 tag (.ok false (be16 g.val ++ [code])))
    ∧ (∀ (group : Half) (g : Group), group.toNat = g.val →
      ∃ t, exec (.clearPlan tag group) s = .next t ∧ t = { s with plans := t.plans, control := t.control }
        ∧ t.plans.active = s.plans.active ∧ t.plans.swapInFlight = false ∧ s.SameRecords t s.plans.active
        ∧ (∀ k, t.planIn shadow k = if k = g then
            { members := [], fold := .direct, revert := .revertive, fallback := none, emptyAction := .punt }
            else s.planIn shadow k)
        ∧ s.Answers t 0x21#8 tag (.ok false (be16 g.val ++ [code])))
    ∧ (∀ group : Half, 1023 < group.toNat →
      ∃ t, exec (.clearPlan tag group) s = .next t ∧ t = { s with control := t.control }
        ∧ s.Answers t 0x21#8 tag (.invalid .group none))
    ∧ ∃ t, exec (.copyActive tag) s = .next t ∧ t = { s with plans := t.plans, control := t.control }
        ∧ t.plans.active = s.plans.active ∧ t.plans.swapInFlight = false ∧ s.SameRecords t s.plans.active
        ∧ (∀ k, t.planIn shadow k = s.planIn s.plans.active k)
        ∧ s.Answers t 0x22#8 tag (.ok false (be16
            ((List.finRange 1024).filter fun k => s.planIn shadow k ≠ s.planIn s.plans.active k).length))

/-- R68: the checks of WRITE-PLAN in the order of its table; the first that fails gives the reply and nothing is
written. Which slot a DUPLICATE reply names among several is a free value (log entry 11). -/
def Obligations.WritePlanChecksInOrder : Prop :=
  ∀ (tag : Byte) (f : PlanFields) (s : State), s.PortFree → s.plans.swapInFlight = false →
    let refused (c : FaultCode) (slot : Option Nat) : Prop :=
      ∃ t, exec (.writePlan tag f) s = .next t ∧ t = { s with control := t.control }
        ∧ s.Answers t 0x20#8 tag (.invalid c slot)
    if 1023 < f.group.toNat then refused .group none
    else if 8 < f.members.length then refused .count none
    else if ¬ (∀ m ∈ f.members, m.1.toNat ≤ 15) then
      ∃ k, refused .uplink (some k) ∧ (∃ m, f.members[k]? = some m ∧ 15 < m.1.toNat)
        ∧ ∀ j m, j < k → f.members[j]? = some m → m.1.toNat ≤ 15
    else if ¬ (∀ m ∈ f.members, 1 ≤ m.2.toNat ∧ m.2.toNat ≤ 15) then
      ∃ k, refused .weight (some k) ∧ (∃ m, f.members[k]? = some m ∧ (m.2.toNat = 0 ∨ 15 < m.2.toNat))
        ∧ ∀ j m, j < k → f.members[j]? = some m → 1 ≤ m.2.toNat ∧ m.2.toNat ≤ 15
    else if ¬ (f.members.map (·.1)).Nodup then
      ∃ k, refused .duplicate (some k)
        ∧ ∃ j m n, j < k ∧ f.members[j]? = some m ∧ f.members[k]? = some n ∧ m.1 = n.1
    else if ¬ (f.fold.toNat ≤ 1 ∧ f.revert.toNat ≤ 1 ∧ f.emptyAction.toNat ≤ 1) then refused .mode none
    else f.fallback ≠ 0xFFFF#16 → (1023 < f.fallback.toNat ∨ f.fallback = f.group) → refused .fallback none

/-- R72, R76: while a swap is in flight every bank write and SWAP is answered BUSY, before any other check, and
nothing else changes. -/
def Obligations.SwapHoldsOffBankWrites : Prop :=
  ∀ (tag : Byte) (s : State), s.PortFree → s.plans.swapInFlight = true →
    let busy (c : Instr) (type : Byte) :=
      ∃ t, exec c s = .next t ∧ t = { s with control := t.control } ∧ s.Answers t type tag .busy
    (∀ f, busy (.writePlan tag f) 0x20#8) ∧ (∀ g, busy (.clearPlan tag g) 0x21#8) ∧ busy (.copyActive tag) 0x22#8
      ∧ busy (.swap tag) 0x24#8

/-- R75: an accepted SWAP sets the flag, marks all 1,024 groups with the replan flag, opens an episode if none is
open, and answers with the bank that will become active and 1,024 replans remaining (widths: log entry 12). -/
def Obligations.SwapMarksEveryGroup : Prop :=
  ∀ (tag : Byte) (s : State), s.PortFree → s.plans.swapInFlight = false →
    ∃ t, exec (.swap tag) s = .next t
      ∧ t = { s with
          plans := { s.plans with swapInFlight := true }, control := t.control,
          sweep := { s.sweep with dirty := t.sweep.dirty, episode := t.sweep.episode } }
      ∧ (∀ g, ∃ rb, GroupMap.find t.sweep.dirty g = some { replan := true, rebalance := rb }
          ∧ (rb = true ↔ ∃ e, GroupMap.find s.sweep.dirty g = some e ∧ e.rebalance = true))
      ∧ (s.sweep.episode = none → (∃ g, GroupMap.find s.sweep.dirty g = none) →
          t.sweep.episode =
            some { startSeconds := s.clock.seconds, startMicros := s.clock.micros, passes := 0 })
      ∧ (s.sweep.episode = none → (∀ g, GroupMap.find s.sweep.dirty g ≠ none) → t.sweep.episode = none)
      ∧ (∀ e, s.sweep.episode = some e → t.sweep.episode = some e)
      ∧ s.Answers t 0x24#8 tag
          (.ok false [(match s.plans.active with | .A => 1#8 | .B => 0#8), 0x04#8, 0x00#8])

/-- R73, and R102, R117: READ-PLAN on each bank code, READ-GROUP on a group that is not under a pass, held on one that
is, and their refusals; no reading changes the part. -/
def Obligations.PlanAndGroupReadings : Prop :=
  ∀ (tag : Byte) (s : State), s.PortFree →
    (∀ (group : Half) (g : Group) (code : Byte) (b : Bank), group.toNat = g.val →
      (code = 0#8 ∧ b = .A ∨ code = 1#8 ∧ b = .B ∨ code = 2#8 ∧ b = s.plans.active
        ∨ code = 3#8 ∧ b ≠ s.plans.active) →
      let p := s.planIn b g
      ∃ t, exec (.readPlan tag group code) s = .next t ∧ t = { s with control := t.control }
        ∧ s.Answers t 0x23#8 tag (.ok false
          ([b.code, if b = s.plans.active then 1#8 else 0#8] ++ be16 g.val
            ++ [byte p.members.length, p.fold.code, p.revert.code]
            ++ (match p.fallback with | some k => be16 k.val | none => [0xFF#8, 0xFF#8]) ++ [p.emptyAction.code]
            ++ p.members.flatMap fun m => [byte m.uplink.val, byte m.weight])))
    ∧ (∀ (group : Half) (code : Byte), 1023 < group.toNat ∨ 3 < code.toNat →
      ∃ t, exec (.readPlan tag group code) s = .next t ∧ t = { s with control := t.control }
        ∧ s.Answers t 0x23#8 tag (.invalid (if 1023 < group.toNat then .group else .mode) none))
    ∧ (∀ (group : Half) (g : Group), group.toNat = g.val → (∀ p ∈ s.sweep.pass, p.group ≠ g) →
      let x := s.group g
      let flag (b : Bool) : Byte := if b then 1#8 else 0#8
      ∃ t, exec (.readGroup tag group) s = .next t ∧ t = { s with control := t.control }
        ∧ s.Answers t 0x25#8 tag (.ok false
          ([x.selector.code, flag x.evacuated, flag x.unplannedHit,
              match GroupMap.find s.sweep.dirty g with
              | some f => byte (1 + 2 * f.replan.toNat + 4 * f.rebalance.toNat)
              | none => 0#8]
            ++ (List.finRange 64).map fun b =>
                match (x.array x.selector).get b with
                | { home := some h, current := some c } => byte (16 * h.val + c.val)
                | _ => 0x80#8)))
    ∧ (∀ (group : Half) (p : PassRecord), s.sweep.pass = some p → group.toNat = p.group.val →
      exec (.readGroup tag group) s = .next { s with control := { s.control with
        inHand := some { tag, command := .readGroup group } } })
    ∧ (∀ group : Half, 1023 < group.toNat →
      ∃ t, exec (.readGroup tag group) s = .next t ∧ t = { s with control := t.control }
        ∧ s.Answers t 0x25#8 tag (.invalid .group none))

/-- R113: REBALANCE marks one group, or every group planned in the bank it is served from, with the rebalance flag; the
other flags and entries stay. R114: a new entry opens an episode when none is open, and without one none opens. The
reply's items are log entry 12. -/
def Obligations.RebalanceMarksItsGroups : Prop :=
  ∀ (tag : Byte) (s : State), s.PortFree →
    let opened : Episode := { startSeconds := s.clock.seconds, startMicros := s.clock.micros, passes := 0 }
    let same (t : State) : Prop := t = { s with
      control := t.control, sweep := { s.sweep with dirty := t.sweep.dirty, episode := t.sweep.episode } }
    let marked (t : State) (g : Group) : Prop := ∃ rp, (rp = true ↔ s.replanQueued g) ∧
      GroupMap.find t.sweep.dirty g = some { replan := rp, rebalance := true }
    (∀ (n : BitVec 15) (g : Group), n.toNat = g.val →
      ∃ t, exec (.rebalance tag (.group n)) s = .next t ∧ same t ∧ marked t g
        ∧ (∀ k, k ≠ g → GroupMap.find t.sweep.dirty k = GroupMap.find s.sweep.dirty k)
        ∧ t.sweep.episode = (if s.sweep.episode = none ∧ GroupMap.find s.sweep.dirty g = none then some opened
            else s.sweep.episode)
        ∧ s.Answers t 0x26#8 tag (.ok false [if (s.servedPlan g).members = [] then 0#8 else 1#8]))
    ∧ (∀ n : BitVec 15, 1023 < n.toNat →
      ∃ t, exec (.rebalance tag (.group n)) s = .next t ∧ t = { s with control := t.control }
        ∧ s.Answers t 0x26#8 tag (.invalid .group none))
    ∧ ∃ t, exec (.rebalance tag .all) s = .next t ∧ same t
        ∧ (∀ g, (s.servedPlan g).members ≠ [] → marked t g)
        ∧ (∀ g, (s.servedPlan g).members = [] → GroupMap.find t.sweep.dirty g = GroupMap.find s.sweep.dirty g)
        ∧ (∀ e, s.sweep.episode = some e → t.sweep.episode = some e)
        ∧ (s.sweep.episode = none → (∃ g, (s.servedPlan g).members ≠ [] ∧ GroupMap.find s.sweep.dirty g = none) →
            t.sweep.episode = some opened)
        ∧ (s.sweep.episode = none → (∀ g, (s.servedPlan g).members ≠ [] → GroupMap.find s.sweep.dirty g ≠ none) →
            t.sweep.episode = none)
        ∧ s.Answers t 0x26#8 tag
            (.ok false (be16 ((List.finRange 1024).filter fun g => (s.servedPlan g).members ≠ []).length))

/-! ### The sweep engine (chapter 6) -/

/-- R99, R100: a pass begins on the entry with the lowest group number at or above the cursor, else on the lowest of
all; the entry leaves the set, and the pass record takes its flags and a snapshot of the sixteen usable flags. That a
begin commanded with no entry, or during a pass, changes nothing is log entry 1's choice. -/
def Obligations.PassBeginsAtTheCursor : Prop :=
  ∀ s : State, s.resetHeld = false → GroupMap.sorted s.sweep.dirty →
    let listed (g : Group) : Prop := ∃ f, GroupMap.find s.sweep.dirty g = some f
    (∀ g f, s.sweep.pass = none → GroupMap.find s.sweep.dirty g = some f →
      (s.sweep.cursor ≤ g ∧ (∀ k, listed k → s.sweep.cursor ≤ k → g ≤ k)
        ∨ ∀ k, listed k → k < s.sweep.cursor ∧ g ≤ k) →
      ∃ t, exec .passBegin s = .next t
        ∧ t = { s with sweep := { s.sweep with
              dirty := t.sweep.dirty,
              pass := some { group := g, flags := f, snapshot := Vector.ofFn fun u => (s.uplink u).usable } } }
        ∧ ∀ k, GroupMap.find t.sweep.dirty k = if k = g then none else GroupMap.find s.sweep.dirty k)
    ∧ ((s.sweep.dirty = [] ∨ s.sweep.pass ≠ none) → exec .passBegin s = .next s)

/-- R99, R103 to R105, R107 to R111, R77: what a completion writes: the group's record by the kind of pass and by what
is planned, the cursor, the pass count, and the exchange of the banks when no group is served from the active bank any
more. Every other group and the dirty set stay. The working array is `passArray`'s (`PassMovesOnlyOrphans`). -/
def Obligations.PassCompletionWritesTheGroup : Prop :=
  ∀ (s : State) (p : PassRecord), s.resetHeld = false → s.sweep.pass = some p → PlansWellFormed s →
    let g := p.group
    let x := s.group g
    let other : Bank := match x.selector with | .A => .B | .B => .A
    let old := s.planIn x.selector g
    let new := s.planIn other g
    let spent (q : Plan) : Bool := decide (∀ m ∈ q.members, p.snapshot.get m.uplink = false)
    ∃ t, exec .passComplete s = .next t
      ∧ t = { s with
          plans := t.plans, buckets := t.buckets, sweep := t.sweep, events := t.events, control := t.control }
      ∧ t.sweep = { s.sweep with
          cursor := Fin.ofNat 1024 ((g.val + 1) % 1024), pass := none, episode := t.sweep.episode }
      ∧ (s.sweep.dirty = [] → t.sweep.episode = none)
      ∧ (s.sweep.dirty ≠ [] → t.sweep.episode =
          s.sweep.episode.map fun e => { e with passes := min 4095 (e.passes + 1) })
      ∧ (∀ k, k ≠ g → t.group k = s.group k)
      ∧ (p.flags.replan = false → old.members = [] → t.group g = x)
      ∧ (p.flags.replan = false → old.members ≠ [] →
          (t.group g).array x.selector = passArray old p.flags.rebalance p.snapshot (x.array x.selector)
            ∧ (t.group g).array other = x.array other ∧ (t.group g).selector = x.selector
            ∧ (t.group g).evacuated = spent old ∧ (t.group g).unplannedHit = x.unplannedHit)
      ∧ (p.flags.replan = true → (t.group g).selector = other
          ∧ (t.group g).array x.selector = x.array x.selector)
      ∧ (p.flags.replan = true → new.members = [] →
          (t.group g).array other = BucketArray.cleared ∧ (t.group g).evacuated = false
            ∧ (t.group g).unplannedHit = x.unplannedHit)
      ∧ (p.flags.replan = true → new.members ≠ [] →
          (t.group g).array other = passArray new p.flags.rebalance p.snapshot
              (if new.members = old.members then x.array x.selector else homeArray new)
            ∧ (t.group g).evacuated = spent new ∧ (t.group g).unplannedHit = false)
      ∧ ((p.flags.replan = true ∧ s.plans.swapInFlight = true ∧ ∀ k, (t.group k).selector ≠ s.plans.active) →
          t.plans = { s.plans with
            active := (match s.plans.active with | .A => .B | .B => .A), swapInFlight := false })
      ∧ (¬ (p.flags.replan = true ∧ s.plans.swapInFlight = true ∧ ∀ k, (t.group k).selector ≠ s.plans.active) →
          t.plans = s.plans)

/-- R105, step 6, R106, R114: the events a completion hands to the queue, in their order; R102: a
READ-GROUP held for the group is answered from the state the completion wrote. A completion commanded while the engine
is IDLE changes nothing (log entry 1). -/
def Obligations.PassCompletionReports : Prop :=
  ∀ s : State, s.resetHeld = false →
    (∀ p, s.sweep.pass = some p → PlansWellFormed s →
      let g := p.group
      let plan := if p.flags.replan then s.planIn (s.group g).selector.other g else s.planIn (s.group g).selector g
      ∃ t, exec .passComplete s = .next t
        ∧ s.Hands t
            ((if plan.members = [] then []
              else if (s.group g).evacuated = false ∧ (t.group g).evacuated = true then
                [Event.groupEvacuated g p.flags.replan (t.group g).selector]
              else if (s.group g).evacuated = true ∧ (t.group g).evacuated = false then
                [Event.groupRecovered g p.flags.replan (t.group g).selector
                  (plan.members.countP fun m => p.snapshot.get m.uplink)]
              else [])
              ++ (if t.plans.active ≠ s.plans.active then [Event.swapDone t.plans.active] else [])
              ++ (match s.sweep.dirty, s.sweep.episode with
                  | [], some e => [Event.settled e.startSeconds e.startMicros (min 4095 (e.passes + 1))]
                  | _, _ => []))
        ∧ (∀ tag n, s.control.inHand = some { tag, command := .readGroup n } → n.toNat = g.val →
            t.control = { s.control with
              inHand := none,
              replies := s.control.replies ++ [{ type := 0x25#8, tag, body := .ok false (t.groupItems g) }] })
        ∧ ((∀ tag n, s.control.inHand = some { tag, command := .readGroup n } → n.toNat ≠ g.val) →
            t.control = s.control))
    ∧ (s.sweep.pass = none → exec .passComplete s = .next s)

/-! ### Bucket arithmetic (chapter 5) -/

/-- R85, R86: the bucket a flow hash selects under each fold. -/
def Obligations.FoldsSelectTheBucket : Prop :=
  ∀ h : Half,
    (foldHash .direct h).val = h.toNat % 64
    ∧ (foldHash .fold h).val = (h.toNat % 64 ^^^ h.toNat / 64 % 64) ^^^ h.toNat / 4096
    ∧ (foldHash .fold h).val =
        (h.extractLsb' 0 6 ^^^ h.extractLsb' 6 6 ^^^ (h.extractLsb' 12 4).zeroExtend 6).toNat

/-- R88: the shares over a set S of members in slot order: floor shares, the leftover to the largest remainders with
ties to the lower slot, 64 buckets in all; R89: the home assignment deals them in contiguous runs in slot order. -/
def Obligations.SharesAndHomeRuns : Prop :=
  (∀ S : List (Slot × Nat), S ≠ [] → S.Pairwise (fun x y => x.1 < y.1) → (∀ e ∈ S, 1 ≤ e.2 ∧ e.2 ≤ 15) →
    let W := (S.map (·.2)).sum
    let L := 64 - (S.map fun e => 64 * e.2 / W).sum
    let ahead (x e : Slot × Nat) : Bool :=
      decide (64 * e.2 % W < 64 * x.2 % W ∨ (64 * e.2 % W = 64 * x.2 % W ∧ x.1 < e.1))
    (apportion S).map (·.1) = S.map (·.1) ∧ ((apportion S).map (·.2)).sum = 64
      ∧ ∀ e ∈ S, (e.1, 64 * e.2 / W + if (S.filter fun x => ahead x e).length < L then 1 else 0) ∈ apportion S)
  ∧ ∀ (p : Plan) (g : Group), p.WellFormed g → p.members ≠ [] →
    let S := (List.finRange 8).filterMap fun k => (p.members[k.val]?).map fun m => (k, m.weight)
    (homeRuns p).length = 64 ∧ (homeRuns p).Pairwise (· ≤ ·)
      ∧ (∀ e ∈ apportion S, (homeRuns p).count e.1 = e.2)
      ∧ ∀ b : BucketNo, ∃ k : Slot, k.val < p.members.length ∧ (homeRuns p)[b.val]? = some k
          ∧ (homeArray p).get b = { home := some k, current := some k }

/-- R90 to R94: a pass keeps every home; returns a bucket to its usable home where the revert step runs; leaves every
other bucket whose current member is usable; deals each orphan, in ascending bucket number, to the usable member with
the greatest deficit against its share, ties to the lower slot; and with no usable member leaves the array as it was. -/
def Obligations.PassMovesOnlyOrphans : Prop :=
  ∀ (p : Plan) (g : Group) (rebalance : Bool) (snapshot : UplinkSet) (a : BucketArray) (home was : BucketNo → Slot),
    p.WellFormed g → p.members ≠ [] →
    (∀ b, a.get b = { home := some (home b), current := some (was b) }) →
    (∀ b, (home b).val < p.members.length ∧ (was b).val < p.members.length) →
    let usable (k : Slot) : Prop := ∃ m, p.members[k.val]? = some m ∧ snapshot.get m.uplink = true
    let reverts : Prop := p.revert = .revertive ∨ rebalance = true
    let S := (List.finRange 8).filterMap fun k => match p.members[k.val]? with
      | some m => if snapshot.get m.uplink then some (k, m.weight) else none
      | none => none
    ∃ now : BucketNo → Slot,
      (∀ b, (passArray p rebalance snapshot a).get b = { home := some (home b), current := some (now b) })
      ∧ ((∀ k, ¬ usable k) → ∀ b, now b = was b)
      ∧ (∀ b, reverts → usable (home b) → now b = home b)
      ∧ (∀ b, ¬ (reverts ∧ usable (home b)) → usable (was b) → now b = was b)
      ∧ ∀ (b : BucketNo) (k : Slot), usable k → ¬ (reverts ∧ usable (home b)) → ¬ usable (was b) →
          let kept (c : BucketNo) : Prop := (reverts ∧ usable (home c)) ∨ usable (was c)
          let holds (k : Slot) (n : Nat) : Prop :=
            ∃ bs : List BucketNo, bs.Nodup ∧ bs.length = n ∧ ∀ c, c ∈ bs ↔ (c < b ∨ kept c) ∧ now c = k
          usable (now b)
          ∧ ∀ target got targetNow gotNow : Nat,
              (k, target) ∈ apportion S → (now b, targetNow) ∈ apportion S → holds k got → holds (now b) gotNow →
              ((target : Int) - got < (targetNow : Int) - gotNow)
                ∨ ((target : Int) - got = (targetNow : Int) - gotNow ∧ now b ≤ k)

/-- R95, R96: the stand-in is the first usable member in cyclic order from the slot after the current one, and there is
none exactly when no member is usable. -/
def Obligations.StandInIsTheNextUsableSlot : Prop :=
  ∀ (p : Plan) (flags : UplinkSet) (current : Slot), p.members.length ≤ 8 → current.val < p.members.length →
    let n := p.members.length
    let usableAt (j : Nat) (u : Uplink) : Prop :=
      ∃ m, p.members[(current.val + j) % n]? = some m ∧ m.uplink = u ∧ flags.get u = true
    (∀ u, standIn p flags current = some u ↔
      ∃ j, 1 ≤ j ∧ j ≤ n ∧ usableAt j u ∧ ∀ i v, 1 ≤ i → i < j → ¬ usableAt i v)
    ∧ (standIn p flags current = none ↔ ∀ m ∈ p.members, flags.get m.uplink = false)

/-! ### Lookups (chapter 7) -/

/-- R118, R119, R121, R122, R178: a LOOKUP-REQ on a link that is UP is refused on a disabled lane, answered OVERRUN on a
full one with LANE-OVERRUN once in a paused episode, and otherwise queued, the pause condition being evaluated. R143:
the refusal list has two places; that its head has been sent when a third answer comes is log entry 10. -/
def Obligations.LookupArrivalsAreQueuedOrRefused : Prop :=
  ∀ (r : Record) (s : State), s.resetHeld = false → s.fwd.linkUp = true → r.classify = .valid .lookupReq →
    ∀ l : Lane, l.val = (r.b1.extractLsb' 6 2).toNat →
    let x := s.lane l
    let tag : Half := r.b3 ++ r.b4
    let refused (result : LookupResult) : Answer :=
      { lane := l, tag, result, uplink := none, bucket := none, range := false, unplanned := false,
        unsettled := false }
    let base := s.silenceRestarted
    let placed (t : State) (a : Answer) : Prop :=
      (s.fwd.refusals.length < 2 → t.fwd = { base with refusals := s.fwd.refusals ++ [a] })
      ∧ ∀ head second, s.fwd.refusals = [head, second] →
          t.fwd = { base with refusals := [second, a], ftx := some head.record }
    let framed (t : State) : Prop := t = { s with lookup := t.lookup, fwd := t.fwd, events := t.events }
      ∧ t.lookup.serving = s.lookup.serving ∧ t.lookup.lastServed = s.lookup.lastServed
      ∧ ∀ k, k ≠ l → t.lane k = s.lane k
    ∃ t, exec (.lookupReqReceived r) s = .next t ∧ framed t
      ∧ (x.enabled = false →
          t.lane l = x ∧ t.events = s.events ∧ placed t (refused .refused))
      ∧ (x.enabled = true → 16 ≤ x.queue.length →
          t.lane l = { x with overrun := true } ∧ placed t (refused .overrun)
            ∧ (x.overrun = true → t.events = s.events)
            ∧ (x.overrun = false → s.Hands t [.laneOverrun l tag]))
      ∧ (x.enabled = true → x.queue.length < 16 →
          t.events = s.events
            ∧ t.lane l = { x with
                queue := x.queue ++
                  [{ lane := l, tag, group := (r.b1.extractLsb' 0 4 ++ r.b2 : BitVec 12), hash := r.b5 ++ r.b6 }],
                paused := x.paused || decide (x.pauseMark ≤ x.queue.length + 1) }
            ∧ (x.paused = false ∧ x.pauseMark ≤ x.queue.length + 1 →
                t.fwd = { base with
                  signals := s.fwd.signals.filter (fun y => y.lane ≠ l) ++ [{ lane := l, pause := true }] })
            ∧ (x.paused = true ∨ x.queue.length + 1 < x.pauseMark → t.fwd = base))

/-- R124, R119, R129: a service begins on the first lane with a request in cyclic order after the last served, takes
its head, evaluates the resume condition, holds the answer decided on the part as it stands, and notes a first lookup
on an unplanned group. A begin with the engine serving, or with no request, changes nothing (log entry 1). -/
def Obligations.ServiceTakesTheNextLane : Prop :=
  ∀ s : State, s.resetHeld = false →
    (∀ (l : Lane) (q : Request) (rest : List Request) (d : Nat), s.lookup.serving = none →
      1 ≤ d → d ≤ 4 → l.val = (s.lookup.lastServed.val + d) % 4 → (s.lane l).queue = q :: rest →
      (∀ (k : Lane) (i : Nat), 1 ≤ i → i < d → k.val = (s.lookup.lastServed.val + i) % 4 → (s.lane k).queue = []) →
      let x := s.lane l
      let resumes : Bool := x.paused && decide (rest.length ≤ x.resumeMark)
      let unplanned (g : Group) : Prop := q.group.toNat = g.val ∧ (s.servedPlan g).members = []
      ∃ t, exec .serviceBegin s = .next t
        ∧ t = { s with lookup := t.lookup, fwd := t.fwd, buckets := t.buckets, events := t.events }
        ∧ t.lookup.serving = some (s.answerTo q) ∧ t.lookup.lastServed = l
        ∧ t.lane l = { x with
            queue := rest, paused := x.paused && !resumes, overrun := x.overrun && !resumes }
        ∧ (∀ k, k ≠ l → t.lane k = s.lane k)
        ∧ t.fwd = (if resumes = true ∧ s.fwd.linkUp = true then
            { s.fwd with signals := s.fwd.signals.filter (fun y => y.lane ≠ l) ++ [{ lane := l, pause := false }] }
            else s.fwd)
        ∧ (∀ g, unplanned g → t.group g = { s.group g with unplannedHit := true })
        ∧ (∀ g, ¬ unplanned g → t.group g = s.group g)
        ∧ (∀ g, unplanned g → (s.group g).unplannedHit = false →
            s.Hands t [.unplannedHit g q.lane (s.group g).selector])
        ∧ ((∀ g, unplanned g → (s.group g).unplannedHit = true) → t.events = s.events))
    ∧ ((s.lookup.serving ≠ none ∨ ∀ l, (s.lane l).queue = []) → exec .serviceBegin s = .next s)

/-- R127 to R134: the decision chain, check by check, and the fields of each answer. -/
def Obligations.LookupsFollowTheDecisionChain : Prop :=
  ∀ (q : Request) (s : State), PlansWellFormed s → ArraysSound s →
    let flags : UplinkSet := Vector.ofFn fun u => (s.uplink u).usable
    let busy (g : Group) : Bool :=
      (GroupMap.find s.sweep.dirty g).isSome || s.sweep.pass.any fun p => p.group = g
    let answer (result : LookupResult) (u : Option Uplink) (b : Option BucketNo) (unsettled : Bool) : Answer :=
      { lane := q.lane, tag := q.tag, result, uplink := u, bucket := b, range := false, unplanned := false, unsettled }
    let current (g : Group) (k : Slot) : Prop :=
      ((s.servedArray g).get (foldHash (s.servedPlan g).fold q.hash)).current = some k
    let bucket (g : Group) : BucketNo := foldHash (s.servedPlan g).fold q.hash
    let uses (g : Group) (k : Slot) (u : Uplink) : Prop :=
      ∃ m, (s.servedPlan g).members[k.val]? = some m ∧ m.uplink = u
    (1024 ≤ q.group.toNat → s.answerTo q = { answer .punt none none false with range := true })
    ∧ ∀ g : Group, q.group.toNat = g.val →
      ((s.servedPlan g).members = [] → s.answerTo q = { answer .punt none none false with unplanned := true })
      ∧ ((s.servedPlan g).members ≠ [] → ∃ k u, current g k ∧ uses g k u
        ∧ (flags.get u = true → s.answerTo q = answer .forward (some u) (some (bucket g)) (busy g))
        ∧ (flags.get u = false → ∀ v, standIn (s.servedPlan g) flags k = some v →
            s.answerTo q = answer .standin (some v) (some (bucket g)) (busy g))
        ∧ (flags.get u = false → standIn (s.servedPlan g) flags k = none →
            (∀ f, (s.servedPlan g).fallback = some f → s.someUsable (s.servedPlan f) →
              ∃ j w, current f j ∧ uses f j w
                ∧ (flags.get w = true → s.answerTo q = answer .fallback (some w) (some (bucket f)) (busy f))
                ∧ (flags.get w = false → ∃ v, standIn (s.servedPlan f) flags j = some v
                    ∧ s.answerTo q = answer .fallback (some v) (some (bucket f)) (busy f)))
            ∧ ((∀ f, (s.servedPlan g).fallback = some f → ¬ s.someUsable (s.servedPlan f)) →
              s.answerTo q = answer (match (s.servedPlan g).emptyAction with | .punt => .punt | .discard => .discard)
                none (some (bucket g)) (busy g))))

/-- R123, R119, R143: SET-LANE's refusals; its clamps; the pause and resume conditions evaluated on the marks written;
the lane as it then stands reported (order and widths of the items: log entry 12). -/
def Obligations.SetLaneEvaluatesTheMarks : Prop :=
  ∀ (tag lane enabled pauseMark resumeMark : Byte) (s : State), s.PortFree →
    let row : Instr := .setLane tag lane enabled pauseMark resumeMark
    let refused (c : FaultCode) : Prop :=
      ∃ t, exec row s = .next t ∧ t = { s with control := t.control } ∧ s.Answers t 0x30#8 tag (.invalid c none)
    (3 < lane.toNat → refused .lane)
    ∧ (lane.toNat ≤ 3 → 1 < enabled.toNat → refused .mode)
    ∧ ∀ l : Lane, lane.toNat = l.val → enabled.toNat ≤ 1 →
      let x := s.lane l
      let p := max 2 (min 16 pauseMark.toNat)
      let r := min (p - 1) resumeMark.toNat
      let y : LaneState := { x with enabled := decide (enabled = 1#8), pauseMark := p, resumeMark := r }
      let flag (b : Bool) : Byte := if b then 1#8 else 0#8
      let signalled (pause : Bool) : FwdState := if s.fwd.linkUp then
          { s.fwd with signals := s.fwd.signals.filter (fun z => z.lane ≠ l) ++ [{ lane := l, pause }] }
        else s.fwd
      ∃ t, exec row s = .next t
        ∧ t = { s with lookup := t.lookup, fwd := t.fwd, control := t.control }
        ∧ t.lookup.serving = s.lookup.serving ∧ t.lookup.lastServed = s.lookup.lastServed
        ∧ (∀ k, k ≠ l → t.lane k = s.lane k)
        ∧ (x.paused = false → p ≤ x.queue.length → t.lane l = { y with paused := true } ∧ t.fwd = signalled true)
        ∧ (x.paused = false → x.queue.length < p → t.lane l = y ∧ t.fwd = s.fwd)
        ∧ (x.paused = true → x.queue.length ≤ r →
            t.lane l = { y with paused := false, overrun := false } ∧ t.fwd = signalled false)
        ∧ (x.paused = true → r < x.queue.length → t.lane l = y ∧ t.fwd = s.fwd)
        ∧ s.Answers t 0x30#8 tag (.ok (decide (p ≠ pauseMark.toNat ∨ r ≠ resumeMark.toNat))
            [flag (t.lane l).enabled, byte p, byte r, byte x.queue.length, flag (t.lane l).paused,
              flag (t.lane l).overrun])

/-! ### The forwarding port (chapter 8) -/

/-- R138 to R140, R42, R146: a valid record on a DOWN link brings it UP, with FWD-LINK-UP and every suspended deadline
set running, before it is routed; every valid record restarts the silence timer, and SYNC does nothing more; a faulty
record, or one cut short, only counts. Record rows act by their bytes (log entry 6). -/
def Obligations.ValidRecordsKeepTheLinkUp : Prop :=
  ∀ s : State, s.resetHeld = false →
    (∀ r : Record, r.classify = .valid .sync → s.fwd.linkUp = true →
      exec (.syncReceived r) s = .next { s with fwd := s.silenceRestarted })
    ∧ (∀ (r : Record) (kind : InKind), r.classify = .valid kind → s.fwd.linkUp = false →
      ∃ up, up = { s with fwd := { s.fwd with linkUp := true }, uplinks := up.uplinks, events := up.events }
        ∧ (∀ u, up.uplink u = if (s.uplink u).deadline = .suspended then
            { s.uplink u with
              deadline := .running
                (s.clock.now + (s.uplink u).settings.multiplier * (s.uplink u).settings.interval * 1000) }
            else s.uplink u)
        ∧ s.Hands up [.fwdLinkUp kind]
        ∧ (kind = .sync → exec (.syncReceived r) s = .next { up with fwd := up.silenceRestarted })
        ∧ (kind = .lookupReq → exec (.lookupReqReceived r) s = exec (.lookupReqReceived r) up)
        ∧ (kind = .probeIn → exec (.probeInReceived r) s = exec (.probeInReceived r) up))
    ∧ ∀ r : Option Record, (∀ x, r = some x → ∃ why, x.classify = .faulty why) →
      exec (.faultyRecordReceived r) s =
        .next { s with fwd := { s.fwd with headerErrors := min 255 (s.fwd.headerErrors + 1) } }

/-- R141, R135, R41, R146: at the silence timer's expiry the link goes DOWN, the lanes are emptied, a held answer and
the outward lists are dropped, ESTABLISHED uplinks' deadlines are suspended, and FWD-LINK-DOWN is queued. Log entries
2 and 14 for the time and the silence time reported; 1 for a timer that does not run. -/
def Obligations.SilenceExpiryTakesTheLinkDown : Prop :=
  ∀ s : State, s.resetHeld = false →
    (∀ run, s.fwd.silenceTimer = some run →
      ∃ t, exec .silenceExpiry s = .next t
        ∧ t = { s with
            clock := t.clock, uplinks := t.uplinks, lookup := t.lookup, events := t.events,
            fwd := { s.fwd with
              linkUp := false, silenceTimer := none, refusals := [], signals := [], probes := [] } }
        ∧ s.TimeReaches t run.expiry
        ∧ t.lookup.serving = none ∧ t.lookup.lastServed = s.lookup.lastServed
        ∧ (∀ l, t.lane l = { s.lane l with queue := [], paused := false, overrun := false })
        ∧ (∀ u, t.uplink u = if (s.uplink u).continuity = .established then
            { s.uplink u with deadline := .suspended } else s.uplink u)
        ∧ s.Hands t [.fwdLinkDown run.given s.fwd.headerErrors])
    ∧ (s.fwd.silenceTimer = none → exec .silenceExpiry s = .next s)

/-- R144, R125: at a record time the first source with a record is sent: a refusal, a signal, a probe, the held answer
(which completes the service), else SYNC; while the link is DOWN, SYNC. -/
def Obligations.RecordTimesFollowThePriority : Prop :=
  ∀ s : State, s.resetHeld = false →
    let sends (t : State) (r : Record) : Prop := exec .recordTime s = .next { t with fwd := { t.fwd with ftx := some r } }
    (s.fwd.linkUp = false → sends s syncRecord)
    ∧ (s.fwd.linkUp = true →
      (∀ a rest, s.fwd.refusals = a :: rest → sends { s with fwd := { s.fwd with refusals := rest } } a.record)
      ∧ (s.fwd.refusals = [] →
        (∀ x rest, s.fwd.signals = x :: rest → sends { s with fwd := { s.fwd with signals := rest } } x.record)
        ∧ (s.fwd.signals = [] →
          (∀ x rest, s.fwd.probes = x :: rest → sends { s with fwd := { s.fwd with probes := rest } } x.record)
          ∧ (s.fwd.probes = [] →
            (∀ a, s.lookup.serving = some a →
              sends { s with lookup := { s.lookup with serving := none } } a.record)
            ∧ (s.lookup.serving = none → sends s syncRecord)))))

/-- R178: the bytes of every outward record, whose eight bytes sum to 0 modulo 256; R166, R179: the frame of every
reply, its status, fault, slot and health codes, and its check (R162). -/
def Obligations.OutwardRecordsAreSealed : Prop :=
  let sums (r : Record) : Prop := r.b0 + r.b1 + r.b2 + r.b3 + r.b4 + r.b5 + r.b6 + r.b7 = 0#8
  let first (r : Record) : List Byte := [r.b0, r.b1, r.b2, r.b3, r.b4, r.b5, r.b6]
  (sums syncRecord ∧ first syncRecord = [0x5A#8, 0#8, 0#8, 0#8, 0#8, 0#8, 0#8])
  ∧ (∀ x : Signal, sums x.record
      ∧ first x.record = [if x.pause then 0x31#8 else 0x32#8, byte x.lane.val, 0#8, 0#8, 0#8, 0#8, 0#8])
  ∧ (∀ x : ProbeOut, sums x.record ∧ x.record.b0 = 0x22#8 ∧ x.record.b1 = byte x.uplink.val ∧ x.record.b2 = x.seq
      ∧ x.record.b3 = (if x.rdi then 1#8 else 0#8) ∧ x.record.b4 = ~~~x.record.b2 ∧ x.record.b5 = ~~~x.record.b3
      ∧ x.record.b6 = 0#8)
  ∧ (∀ a : Answer, sums a.record ∧ a.record.b0 = 0x12#8
      ∧ (a.record.b1.extractLsb' 6 2).toNat = a.lane.val
      ∧ a.record.b1.extractLsb' 0 3 = (match a.result with
          | .forward => 0#3 | .standin => 1#3 | .fallback => 2#3 | .punt => 3#3 | .discard => 4#3 | .overrun => 5#3
          | .refused => 6#3)
      ∧ a.record.b1.extractLsb' 3 3 = 0#3 ∧ a.record.b2 ++ a.record.b3 = a.tag
      ∧ (∀ u, a.uplink = some u → a.record.b4 = byte (128 + u.val)) ∧ (a.uplink = none → a.record.b4 = 0#8)
      ∧ (∀ b, a.bucket = some b → a.record.b5 = byte (128 + b.val)) ∧ (a.bucket = none → a.record.b5 = 0#8)
      ∧ a.record.b6.getLsbD 0 = a.range ∧ a.record.b6.getLsbD 1 = a.unplanned ∧ a.record.b6.getLsbD 2 = a.unsettled
      ∧ a.record.b6.extractLsb' 3 5 = 0#5)
  ∧ ∀ r : Reply, ∃ payload hi lo,
      r.frame = 0xC3#8 :: (be16 (payload.length + 2) ++ [r.type, r.tag] ++ payload ++ [hi, lo])
      ∧ ((be16 (payload.length + 2) ++ [r.type, r.tag] ++ payload).foldl (fun n x => n + x.toNat) 0
          + (hi.toNat * 256 + lo.toNat)) % 65536 = 0
      ∧ payload = (match r.body with
          | .ok clamped items => 0#8 :: (if clamped then 1#8 else 0#8) :: items
          | .invalid fault slot =>
            [1#8,
              (match fault with
                | .group => 1#8 | .count => 2#8 | .uplink => 3#8 | .weight => 4#8 | .duplicate => 5#8 | .mode => 6#8
                | .fallback => 7#8 | .conduit => 8#8 | .lane => 9#8),
              (match slot with | some k => byte k | none => 0xFF#8)]
          | .busy => [2#8]
          | .full => [3#8]
          | .unknown => [4#8]
          | .malformed => [5#8]
          | .wrongState health => [6#8,
              (match health with
                | .idle => 0#8 | .start => 1#8 | .up => 2#8 | .holdoff => 3#8 | .down => 4#8 | .restoring => 5#8)])

/-! ### Events, time and the alert line (chapter 9) -/

/-- R151, R152, R155, R156: a record handed to the queue: appended in room, the linger timer started by the record that
finds the queue empty and unmoved by any other; at a full queue a ROUTINE record is discarded, an URGENT one takes the
place of the newest ROUTINE one, if any, the linger timer being aimed anew if that was the oldest; the lost flag sets in
each case; the alert line is evaluated each time (log entry 25 for a discard). That a step hands its events to the queue
so, in room or at a full queue, is `State.Hands` of the statements on the steps. -/
def Obligations.FullQueueKeepsUrgentRecords : Prop :=
  ∀ (q : EventQueue) (r : EventRecord) (now : Nat),
    let after := q.enqueue r now
    after.trigger = q.trigger ∧ after.linger = q.linger ∧ after.urgentImmediate = q.urgentImmediate
    ∧ (after.alert = true ↔ q.trigger ≤ after.records.length
        ∨ (q.linger ≠ 0 ∧ after.records ≠ [] ∧ after.lingerTimer = .expired)
        ∨ (q.urgentImmediate = true ∧ ∃ x ∈ after.records, x.event.severity = .urgent))
    ∧ (q.records.length < 64 → after.records = q.records ++ [r] ∧ after.lost = q.lost
        ∧ (q.records ≠ [] → after.lingerTimer = q.lingerTimer)
        ∧ (q.records = [] → after.lingerTimer =
            if q.linger = 0 then .stopped
            else if r.enqueuedAt + q.linger * 1000 ≤ now then .expired
            else .running (r.enqueuedAt + q.linger * 1000)))
    ∧ (64 ≤ q.records.length → after.lost = true)
    ∧ (64 ≤ q.records.length → r.event.severity = .routine →
        after.records = q.records ∧ after.lingerTimer = q.lingerTimer)
    ∧ (64 ≤ q.records.length → r.event.severity = .urgent →
        ((∀ x ∈ q.records, x.event.severity = .urgent) →
          after.records = q.records ∧ after.lingerTimer = q.lingerTimer)
        ∧ ∀ before x later, q.records = before ++ x :: later → x.event.severity = .routine →
          (∀ y ∈ later, y.event.severity = .urgent) →
          after.records = before ++ later ++ [r]
            ∧ (before ≠ [] → after.lingerTimer = q.lingerTimer)
            ∧ (before = [] → q.linger = 0 → after.lingerTimer = .stopped)
            ∧ ∀ oldest rest, before = [] → q.linger ≠ 0 → later ++ [r] = oldest :: rest →
                after.lingerTimer = if oldest.enqueuedAt + q.linger * 1000 ≤ now then .expired
                  else .running (oldest.enqueuedAt + q.linger * 1000))

/-- R154, R155, R156, R172: FETCH-EVENTS takes the first n records, clears the lost flag after reporting it, re-aims
the linger timer and evaluates the alert line. R150, R177 and section 11.4: the 22 bytes of each kind of record. -/
def Obligations.FetchEventsTakesTheOldest : Prop :=
  (∀ (tag count : Byte) (s : State), s.PortFree → EventsSound s →
    let n := max 1 (min 16 count.toNat)
    let kept := s.events.records.drop n
    let due (r : EventRecord) : Nat := r.enqueuedAt + s.events.linger * 1000
    ∃ t, exec (.fetchEvents tag count) s = .next t
      ∧ t = { s with
          control := t.control,
          events := { s.events with
            records := kept, lost := false, lingerTimer := t.events.lingerTimer, alert := t.events.alert } }
      ∧ (kept = [] ∨ s.events.linger = 0 → t.events.lingerTimer = .stopped)
      ∧ (∀ r rest, kept = r :: rest → s.events.linger ≠ 0 →
          t.events.lingerTimer = if due r ≤ s.clock.now then .expired else .running (due r))
      ∧ (t.events.alert = true ↔ s.events.trigger ≤ kept.length
          ∨ (∃ r rest, kept = r :: rest ∧ s.events.linger ≠ 0 ∧ due r ≤ s.clock.now)
          ∨ (s.events.urgentImmediate = true ∧ ∃ r ∈ kept, r.event.severity = .urgent))
      ∧ s.Answers t 0x33#8 tag (.ok (decide (n ≠ count.toNat))
          ([byte (min n s.events.records.length), byte kept.length, if s.events.lost then 1#8 else 0#8]
            ++ (s.events.records.take n).flatMap EventRecord.bytes)))
  ∧ ∀ r : EventRecord,
    let one (b : Bool) : Byte := if b then 1#8 else 0#8
    let cause (c : Cause) : Byte := match c with
      | .start => 0#8 | .clear => 1#8 | .rideThrough => 2#8 | .restored => 3#8 | .forced => 4#8
    let mask (d : Defects) : Byte := byte (d.los.toNat + 2 * d.cont.toNat + 4 * d.rdi.toNat + 8 * d.sd.toNat)
    let members (v : UplinkSet) : List Byte :=
      be16 ((List.finRange 16).foldl (fun n u => n + if v.get u then 2 ^ u.val else 0) 0)
    let bank (b : Bank) : Byte := match b with | .A => 0#8 | .B => 1#8
    let laid (kind : Byte) (urgent : Bool) (subject : Byte) (number : Nat) (detail : List Byte) : Prop :=
      detail.length ≤ 8 ∧ r.bytes = [kind, one urgent] ++ Word.bytes r.seconds ++ be32 r.micros
        ++ [subject] ++ be16 number ++ [byte detail.length] ++ detail ++ List.replicate (8 - detail.length) 0#8
    match r.event with
    | .uplinkHoldoff u d => laid 0x01#8 false 1#8 u.val [mask d]
    | .uplinkDown u d => laid 0x02#8 true 1#8 u.val [mask d]
    | .uplinkRestoring u c => laid 0x03#8 false 1#8 u.val [cause c]
    | .uplinkUp u c => laid 0x04#8 false 1#8 u.val [cause c]
    | .degradeSet u p n len => laid 0x05#8 (decide (p = .fail)) 1#8 u.val [byte n, byte len]
    | .degradeClear u n len => laid 0x06#8 false 1#8 u.val [byte n, byte len]
    | .conduitTrip c trip down v => laid 0x07#8 true 2#8 c.val ([byte trip, byte down] ++ members v)
    | .conduitRelease c trip down v => laid 0x08#8 false 2#8 c.val ([byte trip, byte down] ++ members v)
    | .groupEvacuated g replan b => laid 0x09#8 true 3#8 g.val [one replan, bank b]
    | .groupRecovered g replan b n => laid 0x0A#8 false 3#8 g.val [one replan, bank b, byte n]
    | .swapDone b => laid 0x0B#8 false 0#8 0 [bank b]
    | .settled seconds micros passes =>
      laid 0x0C#8 false 0#8 0 (Word.bytes seconds ++ be32 (micros * 4096 + passes))
    | .laneOverrun l tag => laid 0x0D#8 false 4#8 l.val [tag.extractLsb' 8 8, tag.extractLsb' 0 8]
    | .unplannedHit g l b => laid 0x0E#8 false 3#8 g.val [byte l.val, bank b]
    | .fwdLinkUp kind =>
      laid 0x0F#8 false 0#8 0 [match kind with | .sync => 0x5A#8 | .lookupReq => 0x11#8 | .probeIn => 0x21#8]
    | .fwdLinkDown silence errors => laid 0x10#8 true 0#8 0 [byte silence, byte errors]

/-- R149 and R142: SET-TIME loads the time base and moves no timer; SET-FWDLINK writes the silence time at its nearest
bound and leaves a running timer as it is. The items of the two replies and their widths are log entry 12. -/
def Obligations.SetTimeAndSetFwdlinkMoveNoTimer : Prop :=
  ∀ (tag : Byte) (s : State), s.PortFree →
    (∀ seconds : Word, ∃ t, exec (.setTime tag seconds) s = .next t
      ∧ t = { s with clock := { s.clock with seconds := seconds, micros := 0 }, control := t.control }
      ∧ s.Answers t 0x03#8 tag (.ok false
          ([seconds.extractLsb' 24 8, seconds.extractLsb' 16 8, seconds.extractLsb' 8 8, seconds.extractLsb' 0 8]
            ++ [0#8, 0#8, 0#8, 0#8])))
    ∧ ∀ silence : Byte,
      let n := max 1 (min 100 silence.toNat)
      ∃ t, exec (.setFwdlink tag silence) s = .next t
        ∧ t = { s with fwd := { s.fwd with silence := n }, control := t.control }
        ∧ s.Answers t 0x31#8 tag (.ok (decide (n ≠ silence.toNat))
            [byte n, if s.fwd.linkUp then 1#8 else 0#8, byte s.fwd.headerErrors])

/-- R156, R157: SET-ALERT writes its settings, aims the linger timer and evaluates the line once; R155, R156: the linger
timer's expiry asserts the line. Log entries 1 and 2 for the time and for a timer that does not run, 12 for the items
of the reply, 24 for a running timer whose moment has passed. -/
def Obligations.AlertSettingsAndLingerDriveTheLine : Prop :=
  (∀ (tag trigger urgent : Byte) (linger : Half) (s : State), s.PortFree →
    (1 < urgent.toNat →
      ∃ t, exec (.setAlert tag trigger linger urgent) s = .next t ∧ t = { s with control := t.control }
        ∧ s.Answers t 0x32#8 tag (.invalid .mode none))
    ∧ (urgent.toNat ≤ 1 →
      let level := max 1 (min 64 trigger.toNat)
      let wait := min 1000 linger.toNat
      let old (r : EventRecord) : Prop := wait ≠ 0 ∧ r.enqueuedAt + wait * 1000 ≤ s.clock.now
      let urgents := s.events.records.filter fun r => r.event.severity = .urgent
      ∃ t, exec (.setAlert tag trigger linger urgent) s = .next t
        ∧ t = { s with
            control := t.control,
            events := { s.events with
              trigger := level, linger := wait, urgentImmediate := decide (urgent = 1#8),
              lingerTimer := t.events.lingerTimer, alert := t.events.alert } }
        ∧ t.events.LingerSound s.clock.now
        ∧ (t.events.lingerTimer = .expired ↔ ∃ r rest, s.events.records = r :: rest ∧ old r)
        ∧ (t.events.alert = true ↔ level ≤ s.events.records.length
            ∨ (∃ r rest, s.events.records = r :: rest ∧ old r) ∨ (urgent = 1#8 ∧ urgents ≠ []))
        ∧ s.Answers t 0x32#8 tag (.ok (decide (level ≠ trigger.toNat ∨ wait ≠ linger.toNat))
            ([byte level] ++ be16 wait ++ [urgent, byte s.events.records.length, byte urgents.length,
              if t.events.alert then 1#8 else 0#8]))))
  ∧ ∀ s : State, s.resetHeld = false →
    (∀ e, s.events.lingerTimer = .running e → EventsSound s →
      ∃ t, exec .lingerExpiry s = .next t ∧ s.TimeReaches t e
        ∧ t = { s with clock := t.clock, events := { s.events with lingerTimer := .expired, alert := true } })
    ∧ ((∀ e, s.events.lingerTimer ≠ .running e) → exec .lingerExpiry s = .next s)

/-! ### The control port (chapter 10) -/

/-- R163, R177, R179: what a command's layout gives the receiver reads back, and no other bytes read as a command; and a
frame received whole with a sound check does what the command's own row does (log entries 4 and 5). -/
def Obligations.CommandsSurviveTheWire : Prop :=
  (∀ c : Command, c.wf = true → parseCommand c.typeCode c.payload = .command c ∧ c.payload.length ≤ 512)
  ∧ (∀ (type : Byte) (payload : List Byte) (c : Command), payload.length ≤ 512 →
      parseCommand type payload = .command c → c.wf = true ∧ c.typeCode = type ∧ c.payload = payload)
  ∧ ∀ (c : Command) (tag : Byte) (s : State), c.wf = true → s.resetHeld = false → s.control.rx = .hunting →
      s.control.frame = [] →
      exec (.frameReceived (c.frameBody tag) (checkOf (lengthAndBody (c.frameBody tag)))) s = exec (rowOf tag c) s

/-- R161 to R163: the receiver's table, byte by byte; the two faults that discard and count; the two answers made at
arrival. FRAME_RECEIVED is its bytes taken one after another (log entry 5). -/
def Obligations.ReceiverTakesBytesByItsTable : Prop :=
  (∀ (b : Byte) (s : State), s.resetHeld = false → s.control.ReceiverSound →
    let next (rx : RxState) (frame : List Byte) : State := { s with control := { s.control with rx, frame } }
    let discarded : State := { s with control := { s.control with
      rx := .hunting, frame := [], frameErrors := min 255 (s.control.frameErrors + 1) } }
    let takes (t : State) : Prop := exec (.controlByteTaken b) s = .next t
    (s.control.rx = .hunting → takes (if b = 0xC3#8 then next .length [] else s))
    ∧ (s.control.rx = .length → s.control.frame = [] → takes (next .length [b]))
    ∧ (∀ h, s.control.rx = .length → s.control.frame = [h] →
        takes (if 2 ≤ h.toNat * 256 + b.toNat ∧ h.toNat * 256 + b.toNat ≤ 514 then next .body [h, b] else discarded))
    ∧ ∀ h l kept, (s.control.rx = .body ∨ s.control.rx = .check) → s.control.frame = h :: l :: kept →
        let length := h.toNat * 256 + l.toNat
        let frame := s.control.frame ++ [b]
        (kept.length + 1 < length → takes (next .body frame))
        ∧ (kept.length + 1 = length ∨ kept.length = length → takes (next .check frame))
        ∧ (kept.length = length + 1 → ∀ body hi, kept = body ++ [hi] →
            let whole := (h :: l :: body).foldl (fun n x => n + x.toNat) 0 + (hi.toNat * 256 + b.toNat)
            (whole % 65536 ≠ 0 → takes discarded)
            ∧ (whole % 65536 = 0 → ∀ type tag payload, body = type :: tag :: payload →
                let t := next .hunting []
                match parseCommand type payload with
                | .unknown => takes { t with control := { t.control with
                    replies := t.control.replies ++ [{ type, tag, body := .unknown }] } }
                | .malformed => takes { t with control := { t.control with
                    replies := t.control.replies ++ [{ type, tag, body := .malformed }] } }
                | .command c => exec (.controlByteTaken b) s = exec (rowOf tag c) t)))
  ∧ ∀ (body : List Byte) (check : Half) (s : State), ∃ take : State → Byte → State,
      (∀ t b, exec (.controlByteTaken b) t = .next (take t b))
      ∧ exec (.frameReceived body check) s = .next
          ((0xC3#8 :: (be16 body.length ++ body ++ [check.extractLsb' 8 8, check.extractLsb' 0 8])).foldl take s)

/-- R164 to R166: a command is answered FULL behind eight, waits behind a command in hand or a reply to be sent, and is
otherwise taken at once; when the last reply has been sent, the head of the queue is taken. That a row is its frame
received whole, and that a waiting command is taken in the step that allows it, is log entry 4; that REPLY_SENT is the
end of a reply is log entry 18, and that it changes nothing with no reply to be sent is log entry 1. -/
def Obligations.CommandsWaitTheirTurn : Prop :=
  (∀ (c : Command) (tag : Byte) (s : State), s.resetHeld = false →
    (8 ≤ s.control.queue.length → exec (rowOf tag c) s = .next { s with control := { s.control with
      replies := s.control.replies ++ [{ type := c.typeCode, tag, body := .full }] } })
    ∧ (s.control.queue.length < 8 → s.control.inHand ≠ none ∨ s.control.replies ≠ [] →
        exec (rowOf tag c) s = .next { s with control := { s.control with
          queue := s.control.queue ++ [{ tag, command := c }] } })
    ∧ (s.PortFree → exec (rowOf tag c) s = .next (takeCommand tag c s)))
  ∧ ∀ s : State, s.resetHeld = false →
    (s.control.replies = [] → exec .replySent s = .next s)
    ∧ ∀ r rest, s.control.replies = r :: rest → (∀ tag, s.control.inHand ≠ some { tag, command := .reset }) →
      let sent : ControlState := { s.control with replies := rest, ctx := some r }
      (s.control.inHand ≠ none ∨ rest ≠ [] ∨ s.control.queue = [] →
        exec .replySent s = .next { s with control := sent })
      ∧ ∀ q waiting, s.control.inHand = none → rest = [] → s.control.queue = q :: waiting →
        exec .replySent s = .next (takeCommand q.tag q.command { s with control := { sent with queue := waiting } })

/-! ### Invariants -/

/-- The state right after reset meets every invariant. -/
def Obligations.ResetIsSound : Prop :=
  MonitorSound State.reset ∧ ConduitsSound State.reset ∧ ForwardingSound State.reset ∧ EventsSound State.reset
    ∧ SweepSound State.reset ∧ ControlSound State.reset

/-- R1, R7, R9, R12 to R18, R20, R27, R39 to R46: every step keeps the uplinks' filters, health, deadlines, probe
state and settings sound. -/
def Obligations.StepsKeepUplinksSound : Prop :=
  ∀ s t : State, MonitorSound s → step s = .next t → MonitorSound t

/-- R52, R53, R58, R59: after every step each tripped, shunned and usable flag is exactly its condition. -/
def Obligations.StepsKeepUsabilityExact : Prop :=
  ∀ s t : State, ConduitsSound s → step s = .next t → ConduitsSound t

/-- R119, R120, R123, R135, R141 to R143: every step keeps the lanes and the forwarding port sound. -/
def Obligations.StepsKeepLanesAndLinkSound : Prop :=
  ∀ s t : State, ForwardingSound s → step s = .next t → ForwardingSound t

/-- R151, R155 to R157: every step keeps the queue in order and in bound, the alert line exactly its condition, and the
linger timer aimed at the oldest record. -/
def Obligations.StepsKeepEventsSound : Prop :=
  ∀ s t : State, EventsSound s → step s = .next t → EventsSound t

/-- R64, R66, R68, R74 to R77, R97, R112, R114: every step keeps the stores canonical (log entries 17 and 20), the plans
well formed, each group served from the bank its swap state says, and the episode open exactly while work remains. -/
def Obligations.StepsKeepBanksSound : Prop :=
  ∀ s t : State, BanksSound s → step s = .next t → BanksSound t

/-- R84, R89, R91, R103, R107 to R109: every step keeps each planned group's homes by its shares and its buckets on
populated slots, and each unplanned group's array cleared. -/
def Obligations.StepsKeepArraysSound : Prop :=
  ∀ s t : State, BanksSound s → ArraysSound s → step s = .next t → ArraysSound t

/-- R115, R54, R55, R100: every step keeps each planned group that is neither marked nor under a pass wholly on usable
members, or evacuated with none usable. -/
def Obligations.StepsKeepGroupsSettled : Prop :=
  ∀ s t : State, SweepSound s → step s = .next t → Settled t ∧ SnapshotCovered t

/-- R161, R102, R164, R165, R173: every step keeps the control port sound: its receiver's frame, its eight places, the
command in hand, and no command waiting when one may be taken. -/
def Obligations.StepsKeepControlSound : Prop :=
  ∀ s t : State, ControlSound s → step s = .next t → ControlSound t
end

