-- ==== Sys2Proof/Laws/GroupMap.lean ====
section
/-! SUPPORT. The group-addressed stores: reading after each write, and the canonical form kept by each write. -/

namespace Sys2Proof.Machine

variable {α : Type}

@[simp] theorem GroupMap.find_nil (g : Group) : GroupMap.find ([] : GroupMap α) g = none := rfl

theorem GroupMap.find_cons (e : Group × α) (m : GroupMap α) (g : Group) :
    GroupMap.find (e :: m) g = if e.1 = g then some e.2 else GroupMap.find m g := by
  unfold GroupMap.find
  by_cases h : e.1 = g <;> simp [h]

/-- Reading a store after an insertion. -/
theorem GroupMap.find_insert (g : Group) (x : α) (m : GroupMap α) (k : Group) :
    GroupMap.find (GroupMap.insert g x m) k = if g = k then some x else GroupMap.find m k := by
  induction m with
  | nil => simp [GroupMap.insert, GroupMap.find_cons]
  | cons e rest ih =>
    unfold GroupMap.insert
    split
    · rw [GroupMap.find_cons]
    · split
      · rename_i h
        rw [GroupMap.find_cons, GroupMap.find_cons]
        by_cases hk : g = k <;> simp [← h, hk]
      · rename_i hne
        rw [GroupMap.find_cons, GroupMap.find_cons, ih]
        by_cases hk : g = k
        · subst hk
          simp [Ne.symm hne]
        · simp [hk]

/-- Reading a store after an erasure. -/
theorem GroupMap.find_erase (g : Group) (m : GroupMap α) (k : Group) :
    GroupMap.find (GroupMap.erase g m) k = if g = k then none else GroupMap.find m k := by
  induction m with
  | nil => simp [GroupMap.erase]
  | cons e rest ih =>
    unfold GroupMap.erase at ih ⊢
    by_cases he : e.1 = g
    · rw [List.filter_cons_of_neg (by simpa using he), ih, GroupMap.find_cons]
      by_cases hk : g = k
      · simp [hk]
      · simp [hk, he]
    · rw [List.filter_cons_of_pos (by simpa using he), GroupMap.find_cons, GroupMap.find_cons, ih]
      by_cases hk : g = k
      · subst hk
        simp [he]
      · simp [hk]

/-- Reading a store after a write: the record written, and every other group as before. -/
theorem GroupMap.get_put [DecidableEq α] (d : α) (g : Group) (x : α) (m : GroupMap α) (k : Group) :
    GroupMap.get d (GroupMap.put d g x m) k = if g = k then x else GroupMap.get d m k := by
  unfold GroupMap.get GroupMap.put
  split
  · rw [GroupMap.find_erase]
    split <;> simp_all
  · rw [GroupMap.find_insert]
    split <;> simp

theorem GroupMap.mem_of_find {m : GroupMap α} {g : Group} {x : α} (h : GroupMap.find m g = some x) : (g, x) ∈ m := by
  induction m with
  | nil => simp at h
  | cons e rest ih =>
    rw [GroupMap.find_cons] at h
    split at h
    · rename_i hg
      obtain ⟨k, y⟩ := e
      simp only [Option.some.injEq] at h
      simp_all
    · exact List.mem_cons_of_mem _ (ih h)

/-- In a store with rising group numbers, a listed entry is the one that is read. -/
theorem GroupMap.find_of_mem {m : GroupMap α} (hs : GroupMap.sorted m) {g : Group} {x : α} (h : (g, x) ∈ m) :
    GroupMap.find m g = some x := by
  induction m with
  | nil => simp at h
  | cons e rest ih =>
    rw [GroupMap.find_cons]
    rcases List.mem_cons.1 h with h | h
    · simp [← h]
    · have hlt := (List.pairwise_cons.1 hs).1 _ h
      rw [if_neg (ne_of_lt hlt)]
      exact ih (List.pairwise_cons.1 hs).2 h

/-! ### The canonical form -/

theorem GroupMap.mem_insert {g : Group} {x : α} {m : GroupMap α} {e : Group × α} (h : e ∈ GroupMap.insert g x m) :
    e = (g, x) ∨ e ∈ m := by
  induction m with
  | nil => simpa [GroupMap.insert] using h
  | cons a rest ih =>
    unfold GroupMap.insert at h
    split at h
    · simpa using h
    · split at h
      · rcases List.mem_cons.1 h with h | h
        · exact .inl h
        · exact .inr (List.mem_cons_of_mem _ h)
      · rcases List.mem_cons.1 h with h | h
        · exact .inr (h ▸ List.mem_cons_self)
        · exact (ih h).imp id (List.mem_cons_of_mem _)

theorem GroupMap.insert_sorted {g : Group} {x : α} {m : GroupMap α} (hs : GroupMap.sorted m) :
    GroupMap.sorted (GroupMap.insert g x m) := by
  induction m with
  | nil => simp [GroupMap.insert, GroupMap.sorted]
  | cons a rest ih =>
    obtain ⟨ha, hr⟩ := List.pairwise_cons.1 hs
    unfold GroupMap.insert
    split
    · rename_i hlt
      refine List.pairwise_cons.2 ⟨fun b hb => ?_, hs⟩
      rcases List.mem_cons.1 hb with rfl | hb
      · exact hlt
      · exact hlt.trans (ha b hb)
    · split
      · rename_i heq
        exact List.pairwise_cons.2 ⟨fun b hb => heq ▸ ha b hb, hr⟩
      · rename_i hn hne
        refine List.pairwise_cons.2 ⟨fun b hb => ?_, ih hr⟩
        rcases GroupMap.mem_insert hb with rfl | hb
        · exact lt_of_le_of_ne (not_lt.1 hn) (Ne.symm hne)
        · exact ha b hb

theorem GroupMap.erase_sorted {g : Group} {m : GroupMap α} (hs : GroupMap.sorted m) :
    GroupMap.sorted (GroupMap.erase g m) := List.Pairwise.filter _ hs

/-- A write keeps the canonical form. -/
theorem GroupMap.put_canonical [DecidableEq α] {d : α} {g : Group} {x : α} {m : GroupMap α}
    (h : GroupMap.canonical d m) : GroupMap.canonical d (GroupMap.put d g x m) := by
  unfold GroupMap.put
  split
  · exact ⟨GroupMap.erase_sorted h.1, fun e he => h.2 e (List.mem_filter.1 he).1⟩
  · rename_i hx
    refine ⟨GroupMap.insert_sorted h.1, fun e he => ?_⟩
    rcases GroupMap.mem_insert he with rfl | he
    · exact hx
    · exact h.2 e he

@[simp] theorem GroupMap.canonical_nil [DecidableEq α] (d : α) : GroupMap.canonical d ([] : GroupMap α) :=
  ⟨List.Pairwise.nil, by simp⟩

/-! ### A store built from a function -/

theorem GroupMap.find_filterMap (f : Group → Option α) (gs : List Group) (k : Group) :
    GroupMap.find (gs.filterMap fun g => (f g).map fun x => (g, x)) k = if k ∈ gs then f k else none := by
  induction gs with
  | nil => simp
  | cons g rest ih =>
    by_cases hk : g = k
    · subst hk
      cases hf : f g with
      | none => rw [List.filterMap_cons_none (by simp [hf]), ih]; simp [hf]
      | some x => rw [List.filterMap_cons_some (b := (g, x)) (by simp [hf]), GroupMap.find_cons]; simp
    · cases hf : f g with
      | none => rw [List.filterMap_cons_none (by simp [hf]), ih]; simp [Ne.symm hk]
      | some x =>
        rw [List.filterMap_cons_some (b := (g, x)) (by simp [hf]), GroupMap.find_cons, ih]
        simp [hk, Ne.symm hk]

/-- Reading the store built from a function gives what the function gives. -/
@[simp] theorem GroupMap.find_build (f : Group → Option α) (k : Group) :
    GroupMap.find (GroupMap.build f) k = f k := by
  rw [GroupMap.build, GroupMap.find_filterMap]
  simp

/-- The store built from a function has rising group numbers. -/
theorem GroupMap.build_sorted (f : Group → Option α) : GroupMap.sorted (GroupMap.build f) := by
  unfold GroupMap.build GroupMap.sorted
  refine List.Pairwise.filterMap _ ?_ (List.pairwise_lt_finRange 1024)
  intro a b hab x hx y hy
  cases ha : f a <;> cases hb : f b <;> simp_all
  subst hx hy
  exact hab

end Sys2Proof.Machine
end

