-- ==== Sys2Proof/Laws/State.lean ====
section
/-! SUPPORT. The state's small lemmas: reading after writing one uplink, conduit, lane or group, and what each named
update leaves as it was. -/

namespace Sys2Proof.Machine

/-! ### Reading a vector -/

@[simp] theorem vector_get_ofFn {α : Type} {n : Nat} (f : Fin n → α) (i : Fin n) : (Vector.ofFn f).get i = f i := by
  rw [Vector.get_eq_getElem]; simp

@[simp] theorem vector_get_replicate {α : Type} {n : Nat} (x : α) (i : Fin n) : (Vector.replicate n x).get i = x := by
  simp [Vector.get]

theorem vector_get_set {α : Type} {n : Nat} (v : Vector α n) (i j : Fin n) (x : α) :
    (v.set i x).get j = if i = j then x else v.get j := by
  rw [Vector.get_eq_getElem, Vector.get_eq_getElem, Vector.getElem_set]
  simp only [Fin.ext_iff]

theorem vector_ext_get {α : Type} {n : Nat} {v w : Vector α n} (h : ∀ i : Fin n, v.get i = w.get i) : v = w :=
  Vector.ext fun i hi => by simpa [Vector.get] using h ⟨i, hi⟩

/-! ### Reading after writing -/

theorem State.uplink_setUplink (s : State) (u v : Uplink) (x : UplinkState) :
    (s.setUplink u x).uplink v = if u = v then x else s.uplink v := vector_get_set _ _ _ _

@[simp] theorem State.uplink_setUplink_self (s : State) (u : Uplink) (x : UplinkState) :
    (s.setUplink u x).uplink u = x := by simp [State.uplink_setUplink]

theorem State.conduit_setConduit (s : State) (c d : Conduit) (x : ConduitState) :
    (s.setConduit c x).conduit d = if c = d then x else s.conduit d := vector_get_set _ _ _ _

theorem State.lane_setLane (s : State) (l m : Lane) (x : LaneState) :
    (s.setLane l x).lane m = if l = m then x else s.lane m := vector_get_set _ _ _ _

@[simp] theorem State.lane_setLane_self (s : State) (l : Lane) (x : LaneState) : (s.setLane l x).lane l = x := by
  simp [State.lane_setLane]

theorem State.group_setGroup (s : State) (g k : Group) (x : GroupBuckets) :
    (s.setGroup g x).group k = if g = k then x else s.group k := GroupMap.get_put _ _ _ _ _

/-- Two states with the same blocks are the same. -/
theorem State.uplinks_ext {s t : State} (h : ∀ u, s.uplink u = t.uplink u) : s.uplinks = t.uplinks := vector_ext_get h

/-! ### What each update leaves -/

@[simp] theorem State.setUplink_clock (u : Uplink) (x : UplinkState) (s : State) :
    (s.setUplink u x).clock = s.clock := rfl
@[simp] theorem State.setUplink_conduits (u : Uplink) (x : UplinkState) (s : State) :
    (s.setUplink u x).conduits = s.conduits := rfl
@[simp] theorem State.setUplink_plans (u : Uplink) (x : UplinkState) (s : State) :
    (s.setUplink u x).plans = s.plans := rfl
@[simp] theorem State.setUplink_buckets (u : Uplink) (x : UplinkState) (s : State) :
    (s.setUplink u x).buckets = s.buckets := rfl
@[simp] theorem State.setUplink_sweep (u : Uplink) (x : UplinkState) (s : State) :
    (s.setUplink u x).sweep = s.sweep := rfl
@[simp] theorem State.setUplink_lookup (u : Uplink) (x : UplinkState) (s : State) :
    (s.setUplink u x).lookup = s.lookup := rfl
@[simp] theorem State.setUplink_fwd (u : Uplink) (x : UplinkState) (s : State) : (s.setUplink u x).fwd = s.fwd := rfl
@[simp] theorem State.setUplink_events (u : Uplink) (x : UplinkState) (s : State) :
    (s.setUplink u x).events = s.events := rfl
@[simp] theorem State.setUplink_control (u : Uplink) (x : UplinkState) (s : State) :
    (s.setUplink u x).control = s.control := rfl
@[simp] theorem State.setUplink_resetHeld (u : Uplink) (x : UplinkState) (s : State) :
    (s.setUplink u x).resetHeld = s.resetHeld := rfl
@[simp] theorem State.setUplink_pending (u : Uplink) (x : UplinkState) (s : State) :
    (s.setUplink u x).pending = s.pending := rfl

@[simp] theorem State.setConduit_clock (c : Conduit) (x : ConduitState) (s : State) :
    (s.setConduit c x).clock = s.clock := rfl
@[simp] theorem State.setConduit_uplinks (c : Conduit) (x : ConduitState) (s : State) :
    (s.setConduit c x).uplinks = s.uplinks := rfl
@[simp] theorem State.setConduit_plans (c : Conduit) (x : ConduitState) (s : State) :
    (s.setConduit c x).plans = s.plans := rfl
@[simp] theorem State.setConduit_buckets (c : Conduit) (x : ConduitState) (s : State) :
    (s.setConduit c x).buckets = s.buckets := rfl
@[simp] theorem State.setConduit_sweep (c : Conduit) (x : ConduitState) (s : State) :
    (s.setConduit c x).sweep = s.sweep := rfl
@[simp] theorem State.setConduit_lookup (c : Conduit) (x : ConduitState) (s : State) :
    (s.setConduit c x).lookup = s.lookup := rfl
@[simp] theorem State.setConduit_fwd (c : Conduit) (x : ConduitState) (s : State) :
    (s.setConduit c x).fwd = s.fwd := rfl
@[simp] theorem State.setConduit_events (c : Conduit) (x : ConduitState) (s : State) :
    (s.setConduit c x).events = s.events := rfl
@[simp] theorem State.setConduit_control (c : Conduit) (x : ConduitState) (s : State) :
    (s.setConduit c x).control = s.control := rfl
@[simp] theorem State.setConduit_resetHeld (c : Conduit) (x : ConduitState) (s : State) :
    (s.setConduit c x).resetHeld = s.resetHeld := rfl
@[simp] theorem State.setConduit_pending (c : Conduit) (x : ConduitState) (s : State) :
    (s.setConduit c x).pending = s.pending := rfl

@[simp] theorem State.setLane_clock (l : Lane) (x : LaneState) (s : State) : (s.setLane l x).clock = s.clock := rfl
@[simp] theorem State.setLane_uplinks (l : Lane) (x : LaneState) (s : State) :
    (s.setLane l x).uplinks = s.uplinks := rfl
@[simp] theorem State.setLane_conduits (l : Lane) (x : LaneState) (s : State) :
    (s.setLane l x).conduits = s.conduits := rfl
@[simp] theorem State.setLane_plans (l : Lane) (x : LaneState) (s : State) : (s.setLane l x).plans = s.plans := rfl
@[simp] theorem State.setLane_buckets (l : Lane) (x : LaneState) (s : State) :
    (s.setLane l x).buckets = s.buckets := rfl
@[simp] theorem State.setLane_sweep (l : Lane) (x : LaneState) (s : State) : (s.setLane l x).sweep = s.sweep := rfl
@[simp] theorem State.setLane_fwd (l : Lane) (x : LaneState) (s : State) : (s.setLane l x).fwd = s.fwd := rfl
@[simp] theorem State.setLane_events (l : Lane) (x : LaneState) (s : State) : (s.setLane l x).events = s.events := rfl
@[simp] theorem State.setLane_control (l : Lane) (x : LaneState) (s : State) :
    (s.setLane l x).control = s.control := rfl
@[simp] theorem State.setLane_resetHeld (l : Lane) (x : LaneState) (s : State) :
    (s.setLane l x).resetHeld = s.resetHeld := rfl
@[simp] theorem State.setLane_pending (l : Lane) (x : LaneState) (s : State) :
    (s.setLane l x).pending = s.pending := rfl

@[simp] theorem State.setLane_serving (l : Lane) (x : LaneState) (s : State) :
    (s.setLane l x).lookup.serving = s.lookup.serving := rfl
@[simp] theorem State.setLane_lastServed (l : Lane) (x : LaneState) (s : State) :
    (s.setLane l x).lookup.lastServed = s.lookup.lastServed := rfl

@[simp] theorem State.setGroup_clock (g : Group) (x : GroupBuckets) (s : State) :
    (s.setGroup g x).clock = s.clock := rfl
@[simp] theorem State.setGroup_uplinks (g : Group) (x : GroupBuckets) (s : State) :
    (s.setGroup g x).uplinks = s.uplinks := rfl
@[simp] theorem State.setGroup_conduits (g : Group) (x : GroupBuckets) (s : State) :
    (s.setGroup g x).conduits = s.conduits := rfl
@[simp] theorem State.setGroup_plans (g : Group) (x : GroupBuckets) (s : State) :
    (s.setGroup g x).plans = s.plans := rfl
@[simp] theorem State.setGroup_sweep (g : Group) (x : GroupBuckets) (s : State) :
    (s.setGroup g x).sweep = s.sweep := rfl
@[simp] theorem State.setGroup_lookup (g : Group) (x : GroupBuckets) (s : State) :
    (s.setGroup g x).lookup = s.lookup := rfl
@[simp] theorem State.setGroup_fwd (g : Group) (x : GroupBuckets) (s : State) : (s.setGroup g x).fwd = s.fwd := rfl
@[simp] theorem State.setGroup_events (g : Group) (x : GroupBuckets) (s : State) :
    (s.setGroup g x).events = s.events := rfl
@[simp] theorem State.setGroup_control (g : Group) (x : GroupBuckets) (s : State) :
    (s.setGroup g x).control = s.control := rfl
@[simp] theorem State.setGroup_resetHeld (g : Group) (x : GroupBuckets) (s : State) :
    (s.setGroup g x).resetHeld = s.resetHeld := rfl
@[simp] theorem State.setGroup_pending (g : Group) (x : GroupBuckets) (s : State) :
    (s.setGroup g x).pending = s.pending := rfl

@[simp] theorem State.advanceTo_uplinks (t : Nat) (s : State) : (s.advanceTo t).uplinks = s.uplinks := rfl
@[simp] theorem State.advanceTo_conduits (t : Nat) (s : State) : (s.advanceTo t).conduits = s.conduits := rfl
@[simp] theorem State.advanceTo_plans (t : Nat) (s : State) : (s.advanceTo t).plans = s.plans := rfl
@[simp] theorem State.advanceTo_buckets (t : Nat) (s : State) : (s.advanceTo t).buckets = s.buckets := rfl
@[simp] theorem State.advanceTo_sweep (t : Nat) (s : State) : (s.advanceTo t).sweep = s.sweep := rfl
@[simp] theorem State.advanceTo_lookup (t : Nat) (s : State) : (s.advanceTo t).lookup = s.lookup := rfl
@[simp] theorem State.advanceTo_fwd (t : Nat) (s : State) : (s.advanceTo t).fwd = s.fwd := rfl
@[simp] theorem State.advanceTo_events (t : Nat) (s : State) : (s.advanceTo t).events = s.events := rfl
@[simp] theorem State.advanceTo_control (t : Nat) (s : State) : (s.advanceTo t).control = s.control := rfl
@[simp] theorem State.advanceTo_resetHeld (t : Nat) (s : State) : (s.advanceTo t).resetHeld = s.resetHeld := rfl
@[simp] theorem State.advanceTo_pending (t : Nat) (s : State) : (s.advanceTo t).pending = s.pending := rfl

@[simp] theorem State.reply_clock (ty tag : Byte) (body : ReplyBody) (s : State) :
    (s.reply ty tag body).clock = s.clock := rfl
@[simp] theorem State.reply_uplinks (ty tag : Byte) (body : ReplyBody) (s : State) :
    (s.reply ty tag body).uplinks = s.uplinks := rfl
@[simp] theorem State.reply_conduits (ty tag : Byte) (body : ReplyBody) (s : State) :
    (s.reply ty tag body).conduits = s.conduits := rfl
@[simp] theorem State.reply_plans (ty tag : Byte) (body : ReplyBody) (s : State) :
    (s.reply ty tag body).plans = s.plans := rfl
@[simp] theorem State.reply_buckets (ty tag : Byte) (body : ReplyBody) (s : State) :
    (s.reply ty tag body).buckets = s.buckets := rfl
@[simp] theorem State.reply_sweep (ty tag : Byte) (body : ReplyBody) (s : State) :
    (s.reply ty tag body).sweep = s.sweep := rfl
@[simp] theorem State.reply_lookup (ty tag : Byte) (body : ReplyBody) (s : State) :
    (s.reply ty tag body).lookup = s.lookup := rfl
@[simp] theorem State.reply_fwd (ty tag : Byte) (body : ReplyBody) (s : State) : (s.reply ty tag body).fwd = s.fwd := rfl
@[simp] theorem State.reply_events (ty tag : Byte) (body : ReplyBody) (s : State) :
    (s.reply ty tag body).events = s.events := rfl
@[simp] theorem State.reply_resetHeld (ty tag : Byte) (body : ReplyBody) (s : State) :
    (s.reply ty tag body).resetHeld = s.resetHeld := rfl
@[simp] theorem State.reply_pending (ty tag : Byte) (body : ReplyBody) (s : State) :
    (s.reply ty tag body).pending = s.pending := rfl

@[simp] theorem State.raise_clock (e : Event) (s : State) : (s.raise e).clock = s.clock := rfl
@[simp] theorem State.raise_uplinks (e : Event) (s : State) : (s.raise e).uplinks = s.uplinks := rfl
@[simp] theorem State.raise_conduits (e : Event) (s : State) : (s.raise e).conduits = s.conduits := rfl
@[simp] theorem State.raise_plans (e : Event) (s : State) : (s.raise e).plans = s.plans := rfl
@[simp] theorem State.raise_buckets (e : Event) (s : State) : (s.raise e).buckets = s.buckets := rfl
@[simp] theorem State.raise_sweep (e : Event) (s : State) : (s.raise e).sweep = s.sweep := rfl
@[simp] theorem State.raise_lookup (e : Event) (s : State) : (s.raise e).lookup = s.lookup := rfl
@[simp] theorem State.raise_fwd (e : Event) (s : State) : (s.raise e).fwd = s.fwd := rfl
@[simp] theorem State.raise_control (e : Event) (s : State) : (s.raise e).control = s.control := rfl
@[simp] theorem State.raise_resetHeld (e : Event) (s : State) : (s.raise e).resetHeld = s.resetHeld := rfl
@[simp] theorem State.raise_pending (e : Event) (s : State) : (s.raise e).pending = s.pending := rfl

@[simp] theorem State.deliver_clock (m : Group → Bool) (f : DirtyFlags) (s : State) :
    (s.deliver m f).clock = s.clock := by unfold State.deliver; rfl
@[simp] theorem State.deliver_uplinks (m : Group → Bool) (f : DirtyFlags) (s : State) :
    (s.deliver m f).uplinks = s.uplinks := by unfold State.deliver; rfl
@[simp] theorem State.deliver_conduits (m : Group → Bool) (f : DirtyFlags) (s : State) :
    (s.deliver m f).conduits = s.conduits := by unfold State.deliver; rfl
@[simp] theorem State.deliver_plans (m : Group → Bool) (f : DirtyFlags) (s : State) :
    (s.deliver m f).plans = s.plans := by unfold State.deliver; rfl
@[simp] theorem State.deliver_buckets (m : Group → Bool) (f : DirtyFlags) (s : State) :
    (s.deliver m f).buckets = s.buckets := by unfold State.deliver; rfl
@[simp] theorem State.deliver_lookup (m : Group → Bool) (f : DirtyFlags) (s : State) :
    (s.deliver m f).lookup = s.lookup := by unfold State.deliver; rfl
@[simp] theorem State.deliver_fwd (m : Group → Bool) (f : DirtyFlags) (s : State) :
    (s.deliver m f).fwd = s.fwd := by unfold State.deliver; rfl
@[simp] theorem State.deliver_events (m : Group → Bool) (f : DirtyFlags) (s : State) :
    (s.deliver m f).events = s.events := by unfold State.deliver; rfl
@[simp] theorem State.deliver_control (m : Group → Bool) (f : DirtyFlags) (s : State) :
    (s.deliver m f).control = s.control := by unfold State.deliver; rfl
@[simp] theorem State.deliver_resetHeld (m : Group → Bool) (f : DirtyFlags) (s : State) :
    (s.deliver m f).resetHeld = s.resetHeld := by unfold State.deliver; rfl
@[simp] theorem State.deliver_pending (m : Group → Bool) (f : DirtyFlags) (s : State) :
    (s.deliver m f).pending = s.pending := by unfold State.deliver; rfl

@[simp] theorem State.writeShadow_clock (g : Group) (p : Plan) (s : State) :
    (s.writeShadow g p).clock = s.clock := rfl
@[simp] theorem State.writeShadow_uplinks (g : Group) (p : Plan) (s : State) :
    (s.writeShadow g p).uplinks = s.uplinks := rfl
@[simp] theorem State.writeShadow_conduits (g : Group) (p : Plan) (s : State) :
    (s.writeShadow g p).conduits = s.conduits := rfl
@[simp] theorem State.writeShadow_buckets (g : Group) (p : Plan) (s : State) :
    (s.writeShadow g p).buckets = s.buckets := rfl
@[simp] theorem State.writeShadow_sweep (g : Group) (p : Plan) (s : State) :
    (s.writeShadow g p).sweep = s.sweep := rfl
@[simp] theorem State.writeShadow_lookup (g : Group) (p : Plan) (s : State) :
    (s.writeShadow g p).lookup = s.lookup := rfl
@[simp] theorem State.writeShadow_fwd (g : Group) (p : Plan) (s : State) : (s.writeShadow g p).fwd = s.fwd := rfl
@[simp] theorem State.writeShadow_events (g : Group) (p : Plan) (s : State) :
    (s.writeShadow g p).events = s.events := rfl
@[simp] theorem State.writeShadow_control (g : Group) (p : Plan) (s : State) :
    (s.writeShadow g p).control = s.control := rfl
@[simp] theorem State.writeShadow_resetHeld (g : Group) (p : Plan) (s : State) :
    (s.writeShadow g p).resetHeld = s.resetHeld := rfl
@[simp] theorem State.writeShadow_pending (g : Group) (p : Plan) (s : State) :
    (s.writeShadow g p).pending = s.pending := rfl

@[simp] theorem State.flushLanes_clock (s : State) : (s.flushLanes).clock = s.clock := rfl
@[simp] theorem State.flushLanes_uplinks (s : State) : (s.flushLanes).uplinks = s.uplinks := rfl
@[simp] theorem State.flushLanes_conduits (s : State) : (s.flushLanes).conduits = s.conduits := rfl
@[simp] theorem State.flushLanes_plans (s : State) : (s.flushLanes).plans = s.plans := rfl
@[simp] theorem State.flushLanes_buckets (s : State) : (s.flushLanes).buckets = s.buckets := rfl
@[simp] theorem State.flushLanes_sweep (s : State) : (s.flushLanes).sweep = s.sweep := rfl
@[simp] theorem State.flushLanes_fwd (s : State) : (s.flushLanes).fwd = s.fwd := rfl
@[simp] theorem State.flushLanes_events (s : State) : (s.flushLanes).events = s.events := rfl
@[simp] theorem State.flushLanes_control (s : State) : (s.flushLanes).control = s.control := rfl
@[simp] theorem State.flushLanes_resetHeld (s : State) : (s.flushLanes).resetHeld = s.resetHeld := rfl
@[simp] theorem State.flushLanes_pending (s : State) : (s.flushLanes).pending = s.pending := rfl

@[simp] theorem State.restartSilence_clock (s : State) : (s.restartSilence).clock = s.clock := rfl
@[simp] theorem State.restartSilence_uplinks (s : State) : (s.restartSilence).uplinks = s.uplinks := rfl
@[simp] theorem State.restartSilence_conduits (s : State) : (s.restartSilence).conduits = s.conduits := rfl
@[simp] theorem State.restartSilence_plans (s : State) : (s.restartSilence).plans = s.plans := rfl
@[simp] theorem State.restartSilence_buckets (s : State) : (s.restartSilence).buckets = s.buckets := rfl
@[simp] theorem State.restartSilence_sweep (s : State) : (s.restartSilence).sweep = s.sweep := rfl
@[simp] theorem State.restartSilence_lookup (s : State) : (s.restartSilence).lookup = s.lookup := rfl
@[simp] theorem State.restartSilence_events (s : State) : (s.restartSilence).events = s.events := rfl
@[simp] theorem State.restartSilence_control (s : State) : (s.restartSilence).control = s.control := rfl
@[simp] theorem State.restartSilence_resetHeld (s : State) : (s.restartSilence).resetHeld = s.resetHeld := rfl
@[simp] theorem State.restartSilence_pending (s : State) : (s.restartSilence).pending = s.pending := rfl

@[simp] theorem State.send_clock (r : Record) (s : State) : (s.send r).clock = s.clock := rfl
@[simp] theorem State.send_uplinks (r : Record) (s : State) : (s.send r).uplinks = s.uplinks := rfl
@[simp] theorem State.send_conduits (r : Record) (s : State) : (s.send r).conduits = s.conduits := rfl
@[simp] theorem State.send_plans (r : Record) (s : State) : (s.send r).plans = s.plans := rfl
@[simp] theorem State.send_buckets (r : Record) (s : State) : (s.send r).buckets = s.buckets := rfl
@[simp] theorem State.send_sweep (r : Record) (s : State) : (s.send r).sweep = s.sweep := rfl
@[simp] theorem State.send_lookup (r : Record) (s : State) : (s.send r).lookup = s.lookup := rfl
@[simp] theorem State.send_events (r : Record) (s : State) : (s.send r).events = s.events := rfl
@[simp] theorem State.send_control (r : Record) (s : State) : (s.send r).control = s.control := rfl
@[simp] theorem State.send_resetHeld (r : Record) (s : State) : (s.send r).resetHeld = s.resetHeld := rfl
@[simp] theorem State.send_pending (r : Record) (s : State) : (s.send r).pending = s.pending := rfl

@[simp] theorem State.handRefusal_clock (a : Answer) (s : State) :
    (s.handRefusal a).clock = s.clock := by unfold State.handRefusal; split <;> rfl
@[simp] theorem State.handRefusal_uplinks (a : Answer) (s : State) :
    (s.handRefusal a).uplinks = s.uplinks := by unfold State.handRefusal; split <;> rfl
@[simp] theorem State.handRefusal_conduits (a : Answer) (s : State) :
    (s.handRefusal a).conduits = s.conduits := by unfold State.handRefusal; split <;> rfl
@[simp] theorem State.handRefusal_plans (a : Answer) (s : State) :
    (s.handRefusal a).plans = s.plans := by unfold State.handRefusal; split <;> rfl
@[simp] theorem State.handRefusal_buckets (a : Answer) (s : State) :
    (s.handRefusal a).buckets = s.buckets := by unfold State.handRefusal; split <;> rfl
@[simp] theorem State.handRefusal_sweep (a : Answer) (s : State) :
    (s.handRefusal a).sweep = s.sweep := by unfold State.handRefusal; split <;> rfl
@[simp] theorem State.handRefusal_lookup (a : Answer) (s : State) :
    (s.handRefusal a).lookup = s.lookup := by unfold State.handRefusal; split <;> rfl
@[simp] theorem State.handRefusal_events (a : Answer) (s : State) :
    (s.handRefusal a).events = s.events := by unfold State.handRefusal; split <;> rfl
@[simp] theorem State.handRefusal_control (a : Answer) (s : State) :
    (s.handRefusal a).control = s.control := by unfold State.handRefusal; split <;> rfl
@[simp] theorem State.handRefusal_resetHeld (a : Answer) (s : State) :
    (s.handRefusal a).resetHeld = s.resetHeld := by unfold State.handRefusal; split <;> rfl
@[simp] theorem State.handRefusal_pending (a : Answer) (s : State) :
    (s.handRefusal a).pending = s.pending := by unfold State.handRefusal; split <;> rfl

@[simp] theorem State.handSignal_clock (x : Signal) (s : State) :
    (s.handSignal x).clock = s.clock := by unfold State.handSignal; split <;> rfl
@[simp] theorem State.handSignal_uplinks (x : Signal) (s : State) :
    (s.handSignal x).uplinks = s.uplinks := by unfold State.handSignal; split <;> rfl
@[simp] theorem State.handSignal_conduits (x : Signal) (s : State) :
    (s.handSignal x).conduits = s.conduits := by unfold State.handSignal; split <;> rfl
@[simp] theorem State.handSignal_plans (x : Signal) (s : State) :
    (s.handSignal x).plans = s.plans := by unfold State.handSignal; split <;> rfl
@[simp] theorem State.handSignal_buckets (x : Signal) (s : State) :
    (s.handSignal x).buckets = s.buckets := by unfold State.handSignal; split <;> rfl
@[simp] theorem State.handSignal_sweep (x : Signal) (s : State) :
    (s.handSignal x).sweep = s.sweep := by unfold State.handSignal; split <;> rfl
@[simp] theorem State.handSignal_lookup (x : Signal) (s : State) :
    (s.handSignal x).lookup = s.lookup := by unfold State.handSignal; split <;> rfl
@[simp] theorem State.handSignal_events (x : Signal) (s : State) :
    (s.handSignal x).events = s.events := by unfold State.handSignal; split <;> rfl
@[simp] theorem State.handSignal_control (x : Signal) (s : State) :
    (s.handSignal x).control = s.control := by unfold State.handSignal; split <;> rfl
@[simp] theorem State.handSignal_resetHeld (x : Signal) (s : State) :
    (s.handSignal x).resetHeld = s.resetHeld := by unfold State.handSignal; split <;> rfl
@[simp] theorem State.handSignal_pending (x : Signal) (s : State) :
    (s.handSignal x).pending = s.pending := by unfold State.handSignal; split <;> rfl

@[simp] theorem State.handProbe_clock (x : ProbeOut) (s : State) :
    (s.handProbe x).clock = s.clock := by unfold State.handProbe; split <;> rfl
@[simp] theorem State.handProbe_uplinks (x : ProbeOut) (s : State) :
    (s.handProbe x).uplinks = s.uplinks := by unfold State.handProbe; split <;> rfl
@[simp] theorem State.handProbe_conduits (x : ProbeOut) (s : State) :
    (s.handProbe x).conduits = s.conduits := by unfold State.handProbe; split <;> rfl
@[simp] theorem State.handProbe_plans (x : ProbeOut) (s : State) :
    (s.handProbe x).plans = s.plans := by unfold State.handProbe; split <;> rfl
@[simp] theorem State.handProbe_buckets (x : ProbeOut) (s : State) :
    (s.handProbe x).buckets = s.buckets := by unfold State.handProbe; split <;> rfl
@[simp] theorem State.handProbe_sweep (x : ProbeOut) (s : State) :
    (s.handProbe x).sweep = s.sweep := by unfold State.handProbe; split <;> rfl
@[simp] theorem State.handProbe_lookup (x : ProbeOut) (s : State) :
    (s.handProbe x).lookup = s.lookup := by unfold State.handProbe; split <;> rfl
@[simp] theorem State.handProbe_events (x : ProbeOut) (s : State) :
    (s.handProbe x).events = s.events := by unfold State.handProbe; split <;> rfl
@[simp] theorem State.handProbe_control (x : ProbeOut) (s : State) :
    (s.handProbe x).control = s.control := by unfold State.handProbe; split <;> rfl
@[simp] theorem State.handProbe_resetHeld (x : ProbeOut) (s : State) :
    (s.handProbe x).resetHeld = s.resetHeld := by unfold State.handProbe; split <;> rfl
@[simp] theorem State.handProbe_pending (x : ProbeOut) (s : State) :
    (s.handProbe x).pending = s.pending := by unfold State.handProbe; split <;> rfl

@[simp] theorem State.tick_uplinks (s : State) : (s.tick).uplinks = s.uplinks := by unfold State.tick; split <;> rfl
@[simp] theorem State.tick_conduits (s : State) :
    (s.tick).conduits = s.conduits := by unfold State.tick; split <;> rfl
@[simp] theorem State.tick_plans (s : State) : (s.tick).plans = s.plans := by unfold State.tick; split <;> rfl
@[simp] theorem State.tick_buckets (s : State) : (s.tick).buckets = s.buckets := by unfold State.tick; split <;> rfl
@[simp] theorem State.tick_sweep (s : State) : (s.tick).sweep = s.sweep := by unfold State.tick; split <;> rfl
@[simp] theorem State.tick_lookup (s : State) : (s.tick).lookup = s.lookup := by unfold State.tick; split <;> rfl
@[simp] theorem State.tick_fwd (s : State) : (s.tick).fwd = s.fwd := by unfold State.tick; split <;> rfl
@[simp] theorem State.tick_events (s : State) : (s.tick).events = s.events := by unfold State.tick; split <;> rfl
@[simp] theorem State.tick_control (s : State) : (s.tick).control = s.control := by unfold State.tick; split <;> rfl
@[simp] theorem State.tick_resetHeld (s : State) :
    (s.tick).resetHeld = s.resetHeld := by unfold State.tick; split <;> rfl
@[simp] theorem State.tick_pending (s : State) : (s.tick).pending = s.pending := by unfold State.tick; split <;> rfl


/-! ### What is read through the accessors after each update -/

@[simp] theorem State.setUplink_conduit (u : Uplink) (x : UplinkState) (s : State) (d : Conduit) :
    (s.setUplink u x).conduit d = s.conduit d := rfl
@[simp] theorem State.setUplink_lane (u : Uplink) (x : UplinkState) (s : State) (m : Lane) :
    (s.setUplink u x).lane m = s.lane m := rfl
@[simp] theorem State.setUplink_group (u : Uplink) (x : UplinkState) (s : State) (k : Group) :
    (s.setUplink u x).group k = s.group k := rfl
@[simp] theorem State.setUplink_planIn (u : Uplink) (x : UplinkState) (s : State) (b : Bank) (k : Group) :
    (s.setUplink u x).planIn b k = s.planIn b k := rfl
@[simp] theorem State.setUplink_servedPlan (u : Uplink) (x : UplinkState) (s : State) (k : Group) :
    (s.setUplink u x).servedPlan k = s.servedPlan k := rfl
@[simp] theorem State.setUplink_servedArray (u : Uplink) (x : UplinkState) (s : State) (k : Group) :
    (s.setUplink u x).servedArray k = s.servedArray k := rfl

@[simp] theorem State.setConduit_uplink (c : Conduit) (x : ConduitState) (s : State) (v : Uplink) :
    (s.setConduit c x).uplink v = s.uplink v := rfl
@[simp] theorem State.setConduit_lane (c : Conduit) (x : ConduitState) (s : State) (m : Lane) :
    (s.setConduit c x).lane m = s.lane m := rfl
@[simp] theorem State.setConduit_group (c : Conduit) (x : ConduitState) (s : State) (k : Group) :
    (s.setConduit c x).group k = s.group k := rfl
@[simp] theorem State.setConduit_planIn (c : Conduit) (x : ConduitState) (s : State) (b : Bank) (k : Group) :
    (s.setConduit c x).planIn b k = s.planIn b k := rfl
@[simp] theorem State.setConduit_servedPlan (c : Conduit) (x : ConduitState) (s : State) (k : Group) :
    (s.setConduit c x).servedPlan k = s.servedPlan k := rfl
@[simp] theorem State.setConduit_servedArray (c : Conduit) (x : ConduitState) (s : State) (k : Group) :
    (s.setConduit c x).servedArray k = s.servedArray k := rfl

@[simp] theorem State.setLane_uplink (l : Lane) (x : LaneState) (s : State) (v : Uplink) :
    (s.setLane l x).uplink v = s.uplink v := rfl
@[simp] theorem State.setLane_conduit (l : Lane) (x : LaneState) (s : State) (d : Conduit) :
    (s.setLane l x).conduit d = s.conduit d := rfl
@[simp] theorem State.setLane_group (l : Lane) (x : LaneState) (s : State) (k : Group) :
    (s.setLane l x).group k = s.group k := rfl
@[simp] theorem State.setLane_planIn (l : Lane) (x : LaneState) (s : State) (b : Bank) (k : Group) :
    (s.setLane l x).planIn b k = s.planIn b k := rfl
@[simp] theorem State.setLane_servedPlan (l : Lane) (x : LaneState) (s : State) (k : Group) :
    (s.setLane l x).servedPlan k = s.servedPlan k := rfl
@[simp] theorem State.setLane_servedArray (l : Lane) (x : LaneState) (s : State) (k : Group) :
    (s.setLane l x).servedArray k = s.servedArray k := rfl

@[simp] theorem State.setGroup_uplink (g : Group) (x : GroupBuckets) (s : State) (v : Uplink) :
    (s.setGroup g x).uplink v = s.uplink v := rfl
@[simp] theorem State.setGroup_conduit (g : Group) (x : GroupBuckets) (s : State) (d : Conduit) :
    (s.setGroup g x).conduit d = s.conduit d := rfl
@[simp] theorem State.setGroup_lane (g : Group) (x : GroupBuckets) (s : State) (m : Lane) :
    (s.setGroup g x).lane m = s.lane m := rfl
@[simp] theorem State.setGroup_planIn (g : Group) (x : GroupBuckets) (s : State) (b : Bank) (k : Group) :
    (s.setGroup g x).planIn b k = s.planIn b k := rfl

@[simp] theorem State.advanceTo_uplink (t : Nat) (s : State) (v : Uplink) :
    (s.advanceTo t).uplink v = s.uplink v := rfl
@[simp] theorem State.advanceTo_conduit (t : Nat) (s : State) (d : Conduit) :
    (s.advanceTo t).conduit d = s.conduit d := rfl
@[simp] theorem State.advanceTo_lane (t : Nat) (s : State) (m : Lane) : (s.advanceTo t).lane m = s.lane m := rfl
@[simp] theorem State.advanceTo_group (t : Nat) (s : State) (k : Group) : (s.advanceTo t).group k = s.group k := rfl
@[simp] theorem State.advanceTo_planIn (t : Nat) (s : State) (b : Bank) (k : Group) :
    (s.advanceTo t).planIn b k = s.planIn b k := rfl
@[simp] theorem State.advanceTo_servedPlan (t : Nat) (s : State) (k : Group) :
    (s.advanceTo t).servedPlan k = s.servedPlan k := rfl
@[simp] theorem State.advanceTo_servedArray (t : Nat) (s : State) (k : Group) :
    (s.advanceTo t).servedArray k = s.servedArray k := rfl

@[simp] theorem State.reply_uplink (ty tag : Byte) (body : ReplyBody) (s : State) (v : Uplink) :
    (s.reply ty tag body).uplink v = s.uplink v := rfl
@[simp] theorem State.reply_conduit (ty tag : Byte) (body : ReplyBody) (s : State) (d : Conduit) :
    (s.reply ty tag body).conduit d = s.conduit d := rfl
@[simp] theorem State.reply_lane (ty tag : Byte) (body : ReplyBody) (s : State) (m : Lane) :
    (s.reply ty tag body).lane m = s.lane m := rfl
@[simp] theorem State.reply_group (ty tag : Byte) (body : ReplyBody) (s : State) (k : Group) :
    (s.reply ty tag body).group k = s.group k := rfl
@[simp] theorem State.reply_planIn (ty tag : Byte) (body : ReplyBody) (s : State) (b : Bank) (k : Group) :
    (s.reply ty tag body).planIn b k = s.planIn b k := rfl
@[simp] theorem State.reply_servedPlan (ty tag : Byte) (body : ReplyBody) (s : State) (k : Group) :
    (s.reply ty tag body).servedPlan k = s.servedPlan k := rfl
@[simp] theorem State.reply_servedArray (ty tag : Byte) (body : ReplyBody) (s : State) (k : Group) :
    (s.reply ty tag body).servedArray k = s.servedArray k := rfl

@[simp] theorem State.raise_uplink (e : Event) (s : State) (v : Uplink) : (s.raise e).uplink v = s.uplink v := rfl
@[simp] theorem State.raise_conduit (e : Event) (s : State) (d : Conduit) : (s.raise e).conduit d = s.conduit d := rfl
@[simp] theorem State.raise_lane (e : Event) (s : State) (m : Lane) : (s.raise e).lane m = s.lane m := rfl
@[simp] theorem State.raise_group (e : Event) (s : State) (k : Group) : (s.raise e).group k = s.group k := rfl
@[simp] theorem State.raise_planIn (e : Event) (s : State) (b : Bank) (k : Group) :
    (s.raise e).planIn b k = s.planIn b k := rfl
@[simp] theorem State.raise_servedPlan (e : Event) (s : State) (k : Group) :
    (s.raise e).servedPlan k = s.servedPlan k := rfl
@[simp] theorem State.raise_servedArray (e : Event) (s : State) (k : Group) :
    (s.raise e).servedArray k = s.servedArray k := rfl

@[simp] theorem State.deliver_uplink (f : DirtyFlags) (p : Group → Bool) (s : State) (v : Uplink) :
    (s.deliver p f).uplink v = s.uplink v := by
  simp only [State.uplink, State.deliver_uplinks]
@[simp] theorem State.deliver_conduit (f : DirtyFlags) (p : Group → Bool) (s : State) (d : Conduit) :
    (s.deliver p f).conduit d = s.conduit d := by
  simp only [State.conduit, State.deliver_conduits]
@[simp] theorem State.deliver_lane (f : DirtyFlags) (p : Group → Bool) (s : State) (m : Lane) :
    (s.deliver p f).lane m = s.lane m := by
  simp only [State.lane, State.deliver_lookup]
@[simp] theorem State.deliver_group (f : DirtyFlags) (p : Group → Bool) (s : State) (k : Group) :
    (s.deliver p f).group k = s.group k := by
  simp only [State.group, State.deliver_buckets]
@[simp] theorem State.deliver_planIn (f : DirtyFlags) (p : Group → Bool) (s : State) (b : Bank) (k : Group) :
    (s.deliver p f).planIn b k = s.planIn b k := by
  simp only [State.planIn, State.deliver_plans]
@[simp] theorem State.deliver_servedPlan (f : DirtyFlags) (p : Group → Bool) (s : State) (k : Group) :
    (s.deliver p f).servedPlan k = s.servedPlan k := by
  simp only [State.servedPlan, State.planIn, State.group, State.deliver_plans, State.deliver_buckets]
@[simp] theorem State.deliver_servedArray (f : DirtyFlags) (p : Group → Bool) (s : State) (k : Group) :
    (s.deliver p f).servedArray k = s.servedArray k := by
  simp only [State.servedArray, State.group, State.deliver_buckets]

@[simp] theorem State.writeShadow_uplink (g : Group) (p : Plan) (s : State) (v : Uplink) :
    (s.writeShadow g p).uplink v = s.uplink v := rfl
@[simp] theorem State.writeShadow_conduit (g : Group) (p : Plan) (s : State) (d : Conduit) :
    (s.writeShadow g p).conduit d = s.conduit d := rfl
@[simp] theorem State.writeShadow_lane (g : Group) (p : Plan) (s : State) (m : Lane) :
    (s.writeShadow g p).lane m = s.lane m := rfl
@[simp] theorem State.writeShadow_group (g : Group) (p : Plan) (s : State) (k : Group) :
    (s.writeShadow g p).group k = s.group k := rfl
@[simp] theorem State.writeShadow_servedArray (g : Group) (p : Plan) (s : State) (k : Group) :
    (s.writeShadow g p).servedArray k = s.servedArray k := rfl

@[simp] theorem State.restartSilence_uplink (s : State) (v : Uplink) : (s.restartSilence).uplink v = s.uplink v := rfl
@[simp] theorem State.restartSilence_conduit (s : State) (d : Conduit) :
    (s.restartSilence).conduit d = s.conduit d := rfl
@[simp] theorem State.restartSilence_lane (s : State) (m : Lane) : (s.restartSilence).lane m = s.lane m := rfl
@[simp] theorem State.restartSilence_group (s : State) (k : Group) : (s.restartSilence).group k = s.group k := rfl
@[simp] theorem State.restartSilence_planIn (s : State) (b : Bank) (k : Group) :
    (s.restartSilence).planIn b k = s.planIn b k := rfl
@[simp] theorem State.restartSilence_servedPlan (s : State) (k : Group) :
    (s.restartSilence).servedPlan k = s.servedPlan k := rfl
@[simp] theorem State.restartSilence_servedArray (s : State) (k : Group) :
    (s.restartSilence).servedArray k = s.servedArray k := rfl

@[simp] theorem State.send_uplink (r : Record) (s : State) (v : Uplink) : (s.send r).uplink v = s.uplink v := rfl
@[simp] theorem State.send_conduit (r : Record) (s : State) (d : Conduit) : (s.send r).conduit d = s.conduit d := rfl
@[simp] theorem State.send_lane (r : Record) (s : State) (m : Lane) : (s.send r).lane m = s.lane m := rfl
@[simp] theorem State.send_group (r : Record) (s : State) (k : Group) : (s.send r).group k = s.group k := rfl
@[simp] theorem State.send_planIn (r : Record) (s : State) (b : Bank) (k : Group) :
    (s.send r).planIn b k = s.planIn b k := rfl
@[simp] theorem State.send_servedPlan (r : Record) (s : State) (k : Group) :
    (s.send r).servedPlan k = s.servedPlan k := rfl
@[simp] theorem State.send_servedArray (r : Record) (s : State) (k : Group) :
    (s.send r).servedArray k = s.servedArray k := rfl

@[simp] theorem State.handRefusal_uplink (a : Answer) (s : State) (v : Uplink) :
    (s.handRefusal a).uplink v = s.uplink v := by unfold State.handRefusal; split <;> rfl
@[simp] theorem State.handRefusal_conduit (a : Answer) (s : State) (d : Conduit) :
    (s.handRefusal a).conduit d = s.conduit d := by unfold State.handRefusal; split <;> rfl
@[simp] theorem State.handRefusal_lane (a : Answer) (s : State) (m : Lane) :
    (s.handRefusal a).lane m = s.lane m := by unfold State.handRefusal; split <;> rfl
@[simp] theorem State.handRefusal_group (a : Answer) (s : State) (k : Group) :
    (s.handRefusal a).group k = s.group k := by unfold State.handRefusal; split <;> rfl
@[simp] theorem State.handRefusal_planIn (a : Answer) (s : State) (b : Bank) (k : Group) :
    (s.handRefusal a).planIn b k = s.planIn b k := by unfold State.handRefusal; split <;> rfl
@[simp] theorem State.handRefusal_servedPlan (a : Answer) (s : State) (k : Group) :
    (s.handRefusal a).servedPlan k = s.servedPlan k := by unfold State.handRefusal; split <;> rfl
@[simp] theorem State.handRefusal_servedArray (a : Answer) (s : State) (k : Group) :
    (s.handRefusal a).servedArray k = s.servedArray k := by unfold State.handRefusal; split <;> rfl

@[simp] theorem State.handSignal_uplink (x : Signal) (s : State) (v : Uplink) :
    (s.handSignal x).uplink v = s.uplink v := by unfold State.handSignal; split <;> rfl
@[simp] theorem State.handSignal_conduit (x : Signal) (s : State) (d : Conduit) :
    (s.handSignal x).conduit d = s.conduit d := by unfold State.handSignal; split <;> rfl
@[simp] theorem State.handSignal_lane (x : Signal) (s : State) (m : Lane) :
    (s.handSignal x).lane m = s.lane m := by unfold State.handSignal; split <;> rfl
@[simp] theorem State.handSignal_group (x : Signal) (s : State) (k : Group) :
    (s.handSignal x).group k = s.group k := by unfold State.handSignal; split <;> rfl
@[simp] theorem State.handSignal_planIn (x : Signal) (s : State) (b : Bank) (k : Group) :
    (s.handSignal x).planIn b k = s.planIn b k := by unfold State.handSignal; split <;> rfl
@[simp] theorem State.handSignal_servedPlan (x : Signal) (s : State) (k : Group) :
    (s.handSignal x).servedPlan k = s.servedPlan k := by unfold State.handSignal; split <;> rfl
@[simp] theorem State.handSignal_servedArray (x : Signal) (s : State) (k : Group) :
    (s.handSignal x).servedArray k = s.servedArray k := by unfold State.handSignal; split <;> rfl

@[simp] theorem State.handProbe_uplink (x : ProbeOut) (s : State) (v : Uplink) :
    (s.handProbe x).uplink v = s.uplink v := by unfold State.handProbe; split <;> rfl
@[simp] theorem State.handProbe_conduit (x : ProbeOut) (s : State) (d : Conduit) :
    (s.handProbe x).conduit d = s.conduit d := by unfold State.handProbe; split <;> rfl
@[simp] theorem State.handProbe_lane (x : ProbeOut) (s : State) (m : Lane) :
    (s.handProbe x).lane m = s.lane m := by unfold State.handProbe; split <;> rfl
@[simp] theorem State.handProbe_group (x : ProbeOut) (s : State) (k : Group) :
    (s.handProbe x).group k = s.group k := by unfold State.handProbe; split <;> rfl
@[simp] theorem State.handProbe_planIn (x : ProbeOut) (s : State) (b : Bank) (k : Group) :
    (s.handProbe x).planIn b k = s.planIn b k := by unfold State.handProbe; split <;> rfl
@[simp] theorem State.handProbe_servedPlan (x : ProbeOut) (s : State) (k : Group) :
    (s.handProbe x).servedPlan k = s.servedPlan k := by unfold State.handProbe; split <;> rfl
@[simp] theorem State.handProbe_servedArray (x : ProbeOut) (s : State) (k : Group) :
    (s.handProbe x).servedArray k = s.servedArray k := by unfold State.handProbe; split <;> rfl

@[simp] theorem State.tick_uplink (s : State) (v : Uplink) :
    (s.tick).uplink v = s.uplink v := by unfold State.tick; split <;> rfl
@[simp] theorem State.tick_conduit (s : State) (d : Conduit) :
    (s.tick).conduit d = s.conduit d := by unfold State.tick; split <;> rfl
@[simp] theorem State.tick_lane (s : State) (m : Lane) :
    (s.tick).lane m = s.lane m := by unfold State.tick; split <;> rfl
@[simp] theorem State.tick_group (s : State) (k : Group) :
    (s.tick).group k = s.group k := by unfold State.tick; split <;> rfl
@[simp] theorem State.tick_planIn (s : State) (b : Bank) (k : Group) :
    (s.tick).planIn b k = s.planIn b k := by unfold State.tick; split <;> rfl
@[simp] theorem State.tick_servedPlan (s : State) (k : Group) :
    (s.tick).servedPlan k = s.servedPlan k := by unfold State.tick; split <;> rfl
@[simp] theorem State.tick_servedArray (s : State) (k : Group) :
    (s.tick).servedArray k = s.servedArray k := by unfold State.tick; split <;> rfl

end Sys2Proof.Machine
end

