-- ==== Sys2Proof/Laws/Ops.lean ====
section
/-! SUPPORT. One lemma per shared operation of Machine/Ops.lean that says what it can do: time, the event queue, the
dirty set, the outward lists, replies. -/

namespace Sys2Proof.Machine

/-! ### Elapsed time -/

/-- Elapsed time reaches the time asked for, and never moves back. -/
theorem State.advanceTo_now (t : Nat) (s : State) : (s.advanceTo t).clock.now = max t s.clock.now := by
  simp only [State.advanceTo, Clock.advance]
  omega

theorem Clock.advance_micros (k : Nat) (c : Clock) : (c.advance k).micros < 1000000 := Nat.mod_lt _ (by omega)

/-! ### The event queue -/

/-- A record handed to a queue with room joins its tail (R151). -/
theorem EventQueue.enqueue_room {q : EventQueue} (r : EventRecord) (now : Nat) (h : q.records.length < 64) :
    (q.enqueue r now).records = q.records ++ [r] ∧ (q.enqueue r now).lost = q.lost := by
  unfold EventQueue.enqueue
  rw [if_pos (show q.records.length < eventCapacity from h)]
  split <;> exact ⟨rfl, rfl⟩

/-- An enqueue keeps the settings and evaluates the line (R155). -/
theorem EventQueue.enqueue_settings (q : EventQueue) (r : EventRecord) (now : Nat) :
    (q.enqueue r now).trigger = q.trigger ∧ (q.enqueue r now).linger = q.linger
      ∧ (q.enqueue r now).urgentImmediate = q.urgentImmediate
      ∧ (q.enqueue r now).alert = (q.enqueue r now).alertDue := by
  unfold EventQueue.enqueue
  split
  · split <;> exact ⟨rfl, rfl, rfl, rfl⟩
  · split
    · split
      · split <;> exact ⟨rfl, rfl, rfl, rfl⟩
      · exact ⟨rfl, rfl, rfl, rfl⟩
    · exact ⟨rfl, rfl, rfl, rfl⟩

/-- What is left when the newest record that satisfies `p` is removed: the records around it. -/
theorem removeNewest_spec {p : EventRecord → Bool} {l l' : List EventRecord} (h : removeNewest p l = some l') :
    ∃ a r b, l = a ++ r :: b ∧ l' = a ++ b ∧ p r = true ∧ ∀ x ∈ b, p x = false := by
  induction l generalizing l' with
  | nil => simp [removeNewest] at h
  | cons x rest ih =>
    unfold removeNewest at h
    split at h
    · rename_i rest' hr
      obtain ⟨a, r, b, h1, h2, h3, h4⟩ := ih hr
      cases h
      exact ⟨x :: a, r, b, by simp [h1], by simp [h2], h3, h4⟩
    · rename_i hr
      split at h
      · rename_i hx
        cases h
        refine ⟨[], x, rest, rfl, rfl, hx, ?_⟩
        clear ih hx
        induction rest with
        | nil => simp
        | cons y ys ihy =>
          unfold removeNewest at hr
          split at hr
          · simp at hr
          · rename_i hy
            split at hr
            · simp at hr
            · intro z hz
              rcases List.mem_cons.1 hz with rfl | hz
              · simpa using ‹¬p _ = true›
              · exact ihy hy z hz
      · simp at h

/-- Nothing is removed exactly when no record satisfies `p`. -/
theorem removeNewest_none {p : EventRecord → Bool} {l : List EventRecord} :
    removeNewest p l = none ↔ ∀ x ∈ l, p x = false := by
  induction l with
  | nil => simp [removeNewest]
  | cons x rest ih =>
    unfold removeNewest
    split
    · rename_i hr
      obtain ⟨a, r, b, h1, -, h3, -⟩ := removeNewest_spec hr
      constructor
      · simp
      · intro h
        have := h r (by simp [h1])
        simp [this] at h3
    · rename_i hr
      have := ih.1 hr
      split <;> simp_all

/-- The queue never grows past its 64 places (R151). -/
theorem EventQueue.enqueue_length {q : EventQueue} (r : EventRecord) (now : Nat) (h : q.records.length ≤ 64) :
    (q.enqueue r now).records.length ≤ 64 := by
  unfold EventQueue.enqueue
  split
  · rename_i hlt
    simp only [eventCapacity] at hlt
    split <;> simp [EventQueue.evaluate, EventQueue.aim] <;> omega
  · split
    · split
      · rename_i kept hk
        obtain ⟨a, x, b, h1, h2, -, -⟩ := removeNewest_spec hk
        have : kept.length + 1 = q.records.length := by simp [h1, h2]; omega
        split <;> simp [EventQueue.evaluate, EventQueue.aim] <;> omega
      · exact h
    · exact h

/-- Queueing events changes the Event Queue and nothing else. -/
theorem State.raiseAll_frame (es : List Event) (s : State) :
    s.raiseAll es = { s with events := (s.raiseAll es).events } := by
  unfold State.raiseAll
  induction es generalizing s with
  | nil => rfl
  | cons e rest ih =>
    rw [List.foldl_cons, ih (s.raise e)]
    rfl

@[simp] theorem State.raiseAll_nil (s : State) : s.raiseAll [] = s := rfl

@[simp] theorem State.raiseAll_cons (e : Event) (es : List Event) (s : State) :
    s.raiseAll (e :: es) = (s.raise e).raiseAll es := rfl

theorem State.raiseAll_append (es fs : List Event) (s : State) :
    s.raiseAll (es ++ fs) = (s.raiseAll es).raiseAll fs := List.foldl_append

/-- Events queued are handed to the queue in turn, stamped with the present time (R151). -/
theorem State.raiseAll_events (es : List Event) (s : State) :
    (s.raiseAll es).events = es.foldl (fun q e => q.enqueue (e.stamped s.clock) s.clock.now) s.events := by
  induction es generalizing s with
  | nil => rfl
  | cons e rest ih => rw [State.raiseAll_cons, ih]; rfl

/-- Events queued in a queue with room for them all stand at its tail, stamped with the present time (R150, R151). -/
theorem State.raiseAll_room (es : List Event) (s : State) (h : s.events.records.length + es.length ≤ 64) :
    (s.raiseAll es).events.records = s.events.records ++ es.map (·.stamped s.clock) := by
  induction es generalizing s with
  | nil => simp
  | cons e rest ih =>
    have hroom : s.events.records.length < 64 := by simp at h; omega
    have he : (s.raise e).events.records = s.events.records ++ [e.stamped s.clock] :=
      (EventQueue.enqueue_room _ _ hroom).1
    rw [State.raiseAll_cons, ih _ (by rw [he]; simp at h ⊢; omega), he]
    simp

@[simp] theorem State.raiseAll_clock (es : List Event) (s : State) : (s.raiseAll es).clock = s.clock := by
  rw [State.raiseAll_frame]
@[simp] theorem State.raiseAll_uplinks (es : List Event) (s : State) : (s.raiseAll es).uplinks = s.uplinks := by
  rw [State.raiseAll_frame]
@[simp] theorem State.raiseAll_conduits (es : List Event) (s : State) : (s.raiseAll es).conduits = s.conduits := by
  rw [State.raiseAll_frame]
@[simp] theorem State.raiseAll_plans (es : List Event) (s : State) : (s.raiseAll es).plans = s.plans := by
  rw [State.raiseAll_frame]
@[simp] theorem State.raiseAll_buckets (es : List Event) (s : State) : (s.raiseAll es).buckets = s.buckets := by
  rw [State.raiseAll_frame]
@[simp] theorem State.raiseAll_sweep (es : List Event) (s : State) : (s.raiseAll es).sweep = s.sweep := by
  rw [State.raiseAll_frame]
@[simp] theorem State.raiseAll_lookup (es : List Event) (s : State) : (s.raiseAll es).lookup = s.lookup := by
  rw [State.raiseAll_frame]
@[simp] theorem State.raiseAll_fwd (es : List Event) (s : State) : (s.raiseAll es).fwd = s.fwd := by
  rw [State.raiseAll_frame]
@[simp] theorem State.raiseAll_control (es : List Event) (s : State) : (s.raiseAll es).control = s.control := by
  rw [State.raiseAll_frame]
@[simp] theorem State.raiseAll_resetHeld (es : List Event) (s : State) : (s.raiseAll es).resetHeld = s.resetHeld := by
  rw [State.raiseAll_frame]
@[simp] theorem State.raiseAll_pending (es : List Event) (s : State) : (s.raiseAll es).pending = s.pending := by
  rw [State.raiseAll_frame]
@[simp] theorem State.raiseAll_uplink (es : List Event) (s : State) (v : Uplink) :
    (s.raiseAll es).uplink v = s.uplink v := by rw [State.raiseAll_frame]; rfl
@[simp] theorem State.raiseAll_conduit (es : List Event) (s : State) (d : Conduit) :
    (s.raiseAll es).conduit d = s.conduit d := by rw [State.raiseAll_frame]; rfl
@[simp] theorem State.raiseAll_lane (es : List Event) (s : State) (m : Lane) :
    (s.raiseAll es).lane m = s.lane m := by rw [State.raiseAll_frame]; rfl
@[simp] theorem State.raiseAll_group (es : List Event) (s : State) (k : Group) :
    (s.raiseAll es).group k = s.group k := by rw [State.raiseAll_frame]; rfl
@[simp] theorem State.raiseAll_planIn (es : List Event) (s : State) (b : Bank) (k : Group) :
    (s.raiseAll es).planIn b k = s.planIn b k := by rw [State.raiseAll_frame]; rfl
@[simp] theorem State.raiseAll_servedPlan (es : List Event) (s : State) (k : Group) :
    (s.raiseAll es).servedPlan k = s.servedPlan k := by rw [State.raiseAll_frame]; rfl
@[simp] theorem State.raiseAll_servedArray (es : List Event) (s : State) (k : Group) :
    (s.raiseAll es).servedArray k = s.servedArray k := by rw [State.raiseAll_frame]; rfl

/-! ### The dirty set -/

theorem State.deliver_dirty (p : Group → Bool) (f : DirtyFlags) (s : State) :
    (s.deliver p f).sweep.dirty = s.markedDirty p f := by simp only [State.deliver]

theorem State.deliver_episode (p : Group → Bool) (f : DirtyFlags) (s : State) :
    (s.deliver p f).sweep.episode = s.episodeAfter p := by simp only [State.deliver]

/-- R97: the dirty set after a delivery, group by group. -/
theorem State.find_deliver (p : Group → Bool) (f : DirtyFlags) (s : State) (g : Group) :
    GroupMap.find (s.deliver p f).sweep.dirty g =
      if p g then some (DirtyFlags.merge (GroupMap.find s.sweep.dirty g) f) else GroupMap.find s.sweep.dirty g := by
  rw [State.deliver_dirty, State.markedDirty, GroupMap.find_build]

@[simp] theorem State.deliver_cursor (p : Group → Bool) (f : DirtyFlags) (s : State) :
    (s.deliver p f).sweep.cursor = s.sweep.cursor := by unfold State.deliver; rfl

@[simp] theorem State.deliver_pass (p : Group → Bool) (f : DirtyFlags) (s : State) :
    (s.deliver p f).sweep.pass = s.sweep.pass := by unfold State.deliver; rfl

/-- R114: an episode is open after a delivery exactly if it was, or if a new entry was made. -/
theorem State.deliver_episode_isSome (p : Group → Bool) (f : DirtyFlags) (s : State) :
    (s.deliver p f).sweep.episode.isSome = (s.sweep.episode.isSome || s.makesNew p) := by
  rw [State.deliver_episode, State.episodeAfter]
  cases s.sweep.episode with
  | some e => rfl
  | none => cases s.makesNew p <;> rfl

/-- R114: marks make a new entry exactly if one falls on a group that has none. -/
theorem State.makesNew_iff (s : State) (p : Group → Bool) :
    s.makesNew p = true ↔ ∃ g, p g = true ∧ GroupMap.find s.sweep.dirty g = none := by
  simp [State.makesNew]

/-- R114: with nothing marked the episode stays as it is. -/
theorem State.episodeAfter_none (s : State) : s.episodeAfter (fun _ => false) = s.sweep.episode := by
  have h : s.makesNew (fun _ => false) = false := by simp [State.makesNew]
  unfold State.episodeAfter
  rw [h]
  cases s.sweep.episode <;> rfl

/-- A delivery leaves the dirty set with rising group numbers. -/
theorem State.deliver_sorted (p : Group → Bool) (f : DirtyFlags) (s : State) :
    GroupMap.sorted (s.deliver p f).sweep.dirty := by
  rw [State.deliver_dirty, State.markedDirty]
  exact GroupMap.build_sorted _

/-! ### The refusal list (R143) -/

/-- R143: the refusal list keeps to its two places, the newest answer last; only it and the lane can change. -/
theorem FwdState.placeRefusal_spec (a : Answer) (f : FwdState) (h : f.refusals.length ≤ 2) :
    (f.placeRefusal a).refusals.length ≤ 2 ∧ (f.placeRefusal a).refusals.getLast? = some a
      ∧ f.placeRefusal a = { f with refusals := (f.placeRefusal a).refusals, ftx := (f.placeRefusal a).ftx } := by
  unfold FwdState.placeRefusal
  split
  · rename_i hr
    rw [hr] at h
    refine ⟨by simpa using h, ?_, rfl⟩
    show (_ :: _ ++ [a]).getLast? = some a
    rw [List.getLast?_append]
    rfl
  · rename_i hr
    refine ⟨?_, by simp, rfl⟩
    cases hf : f.refusals with
    | nil => simp
    | cons x r =>
      cases r with
      | nil => simp
      | cons y r => exact absurd hf (hr x y r)

/-! ### Counts that stay at a bound -/

theorem saturating_le (bound n : Nat) : saturating bound n ≤ bound := by unfold saturating; split <;> omega

end Sys2Proof.Machine
end

