-- ==== Sys2Proof/Laws/Control.lean ====
section
/-! SUPPORT. What the running gate and the control port do with a command: carried out at once when nothing is ahead of
it, kept when something is, refused when eight wait. -/

namespace Sys2Proof.Machine

/-- A part that is not held by the RESET input acts. -/
theorem whenRunning_of_released {s : State} (h : s.resetHeld = false) (f : State → State) :
    whenRunning s f = .next (f s) := by simp [whenRunning, h]

/-- A part held by the RESET input does not act (R174). -/
theorem whenRunning_of_held {s : State} (h : s.resetHeld = true) (f : State → State) : whenRunning s f = .next s := by
  simp [whenRunning, h]

/-- R173: of the part, a RESET reply sent before a reset by the input shows on the line and nowhere else. -/
theorem State.finishResetReply_frame (s : State) :
    s.finishResetReply = { s with control := { s.control with ctx := s.finishResetReply.control.ctx } } := by
  unfold State.finishResetReply; split <;> rfl

/-- R173: the RESET command's reply, which is the first of the list, is sent. -/
theorem State.finishResetReply_reset {s : State} {tag : Byte} {r : Reply} {rest : List Reply}
    (h : s.control.inHand = some { tag, command := .reset }) (hr : s.control.replies = r :: rest) :
    s.finishResetReply = { s with control := { s.control with ctx := some r } } := by
  unfold State.finishResetReply; rw [h, hr]

/-- R175: with no RESET command in hand no reply is sent. -/
theorem State.finishResetReply_other {s : State} (h : ∀ tag, s.control.inHand ≠ some { tag, command := .reset }) :
    s.finishResetReply = s := by
  unfold State.finishResetReply
  split
  · rename_i heq _; exact absurd heq (h _)
  · rfl

/-- R165: with no command in hand, no reply to send and an empty queue, a command is taken at once. -/
theorem receiveCommand_free {s : State} (tag : Byte) (c : Command) (hq : s.control.queue = [])
    (hh : s.control.inHand = none) (hr : s.control.replies = []) : receiveCommand tag c s = takeCommand tag c s := by
  obtain ⟨clock, uplinks, conduits, plans, buckets, sweep, lookup, fwd, events, control, held, pending⟩ := s
  obtain ⟨rx, frame, errors, queue, inHand, replies, ctx⟩ := control
  simp only at hq hh hr
  subst hq hh hr
  rfl

/-- R164, R165: behind a command in hand or a reply to be sent, a command joins the queue. -/
theorem receiveCommand_waits {s : State} (tag : Byte) (c : Command) (hq : s.control.queue.length < 8)
    (hb : s.mayTake = false) :
    receiveCommand tag c s =
      { s with control := { s.control with queue := s.control.queue ++ [{ tag, command := c }] } } := by
  unfold receiveCommand
  rw [if_pos (show s.control.queue.length < queueCapacity from hq)]
  unfold State.takeNext
  rw [if_neg]
  simpa [State.mayTake] using hb

/-- R164: a command offered to a full queue is answered FULL. -/
theorem receiveCommand_full {s : State} (tag : Byte) (c : Command) (hq : 8 ≤ s.control.queue.length) :
    receiveCommand tag c s = s.reply c.typeCode tag .full := by
  unfold receiveCommand
  rw [if_neg (show ¬ s.control.queue.length < queueCapacity from by simpa [queueCapacity] using hq)]

/-- With nothing waiting to be sent or in hand, and nothing queued, taking the next command does nothing. -/
theorem State.takeNext_empty {s : State} (h : s.control.queue = []) : s.takeNext = s := by
  unfold State.takeNext
  split
  · rw [h]
  · rfl

end Sys2Proof.Machine
end

