-- ==== Sys2Proof/Laws/Monitor.lean ====
section
/-! SUPPORT. What the usability evaluation (R53) can change: the tripped, shunned and usable flags, the dirty set with its
episode, and the event queue. -/

namespace Sys2Proof.Machine

/-! ### The three writes -/

theorem State.uplink_writeTripped (touched : List Conduit) (s : State) (u : Uplink) :
    (s.writeTripped touched).uplink u = s.uplink u := rfl

theorem State.conduit_writeTripped (touched : List Conduit) (s : State) (c : Conduit) :
    (s.writeTripped touched).conduit c =
      if c ∈ touched then { s.conduit c with tripped := s.trippedDue c } else s.conduit c := vector_get_ofFn _ _

theorem State.uplink_writeShunned (touched : List Conduit) (before s : State) (u : Uplink) :
    (State.writeShunned touched before s).uplink u =
      if shunWritten touched (before.uplink u) (s.uplink u) then { s.uplink u with shunned := s.shunnedDue u }
      else s.uplink u := vector_get_ofFn _ _

theorem State.uplink_writeUsable (before s : State) (u : Uplink) :
    (State.writeUsable before s).uplink u =
      if usableInputsChanged (before.uplink u) (s.uplink u) then { s.uplink u with usable := (s.uplink u).usableDue }
      else s.uplink u := vector_get_ofFn _ _

/-- Steps 1 to 3 write uplinks and conduits only. -/
theorem State.usabilityFlags_frame (touched : List Conduit) (before s : State) :
    State.usabilityFlags touched before s =
      { s with
        uplinks := (State.usabilityFlags touched before s).uplinks,
        conduits := (State.usabilityFlags touched before s).conduits } := by
  simp only [State.usabilityFlags, State.writeUsable, State.writeShunned, State.writeTripped]

/-- Of an uplink, steps 1 to 3 write the shunned and usable flags only. -/
theorem State.usabilityFlags_uplink (touched : List Conduit) (before s : State) (u : Uplink) :
    ∃ a b, (State.usabilityFlags touched before s).uplink u = { s.uplink u with shunned := a, usable := b } := by
  unfold State.usabilityFlags
  rw [State.uplink_writeUsable, State.uplink_writeShunned, State.uplink_writeTripped]
  split <;> split <;> exact ⟨_, _, rfl⟩

/-- Of a conduit, steps 1 to 3 write the tripped flag only. -/
theorem State.usabilityFlags_conduit (touched : List Conduit) (before s : State) (c : Conduit) :
    (State.usabilityFlags touched before s).conduit c =
      if c ∈ touched then { s.conduit c with tripped := s.trippedDue c } else s.conduit c :=
  State.conduit_writeTripped touched s c

/-! ### The dirty marks -/

/-- Marking changes the dirty set and its episode only. -/
theorem State.markChanged_frame (changed : List Uplink) (s : State) :
    s.markChanged changed = { s with sweep := { s.sweep with
      dirty := (s.markChanged changed).sweep.dirty, episode := (s.markChanged changed).sweep.episode } } := by
  unfold State.markChanged
  split
  · rfl
  · simp only [State.deliver]

/-- R54, R55: the dirty set after marking, group by group. -/
theorem State.find_markChanged (changed : List Uplink) (s : State) (g : Group) :
    GroupMap.find (s.markChanged changed).sweep.dirty g =
      if changed.any (fun u => s.marksFor u g) then
        some (DirtyFlags.merge (GroupMap.find s.sweep.dirty g) { replan := false, rebalance := false })
      else GroupMap.find s.sweep.dirty g := by
  unfold State.markChanged
  split
  · rename_i h
    rw [List.isEmpty_iff.1 h]
    rfl
  · rw [State.find_deliver]

/-- R114: the episode after marking. -/
theorem State.markChanged_episode (changed : List Uplink) (s : State) :
    (s.markChanged changed).sweep.episode = s.episodeAfter (fun g => changed.any fun u => s.marksFor u g) := by
  unfold State.markChanged
  split
  · rename_i h
    rw [List.isEmpty_iff.1 h]
    exact s.episodeAfter_none.symm
  · exact State.deliver_episode _ _ s

/-! ### The whole evaluation -/

/-- The evaluation is the flags, the marks, then the events. -/
theorem State.evaluateUsability_eq (touched : List Conduit) (health : List Event) (s before : State) :
    s.evaluateUsability touched health before =
      ((State.usabilityFlags touched before s).markChanged
        (usableChanges before (State.usabilityFlags touched before s))).raiseAll
        (health ++ touched.filterMap (conduitEvent before (State.usabilityFlags touched before s))) := rfl

/-- What the usability evaluation can change of the part. -/
theorem State.evaluateUsability_frame (touched : List Conduit) (health : List Event) (s before : State) :
    s.evaluateUsability touched health before = { s with
      uplinks := (State.usabilityFlags touched before s).uplinks,
      conduits := (State.usabilityFlags touched before s).conduits,
      sweep := (s.evaluateUsability touched health before).sweep,
      events := (s.evaluateUsability touched health before).events } := by
  rw [State.evaluateUsability_eq, State.raiseAll_frame, State.markChanged_frame, State.usabilityFlags_frame]

/-- Of an uplink, the usability evaluation writes the shunned and usable flags only. -/
theorem State.evaluateUsability_uplink (touched : List Conduit) (health : List Event) (s before : State) (u : Uplink) :
    ∃ a b, (s.evaluateUsability touched health before).uplink u = { s.uplink u with shunned := a, usable := b } := by
  rw [State.evaluateUsability_frame]
  exact State.usabilityFlags_uplink touched before s u

/-- The usability evaluation moves neither the cursor nor the pass in flight. -/
theorem State.evaluateUsability_sweep (touched : List Conduit) (health : List Event) (s before : State) :
    (s.evaluateUsability touched health before).sweep.cursor = s.sweep.cursor
      ∧ (s.evaluateUsability touched health before).sweep.pass = s.sweep.pass := by
  rw [State.evaluateUsability_eq, State.raiseAll_sweep, State.markChanged_frame]
  exact ⟨rfl, rfl⟩

end Sys2Proof.Machine
end

