-- ==== Sys2Proof/Laws/Settle.lean ====
section
/-! SUPPORT. What a change of one uplink leads to in the same step, said once: the protection machine writes health and
its two timers, the usability evaluation writes the shunned and usable flags, and the events stand at the queue's tail. -/

namespace Sys2Proof.Machine

/-! ### Events and settings -/

/-- Queueing events moves none of the alert settings. -/
theorem State.raiseAll_settings (es : List Event) (s : State) :
    (s.raiseAll es).events.trigger = s.events.trigger ∧ (s.raiseAll es).events.linger = s.events.linger
      ∧ (s.raiseAll es).events.urgentImmediate = s.events.urgentImmediate := by
  induction es generalizing s with
  | nil => exact ⟨rfl, rfl, rfl⟩
  | cons e rest ih =>
    rw [State.raiseAll_cons]
    obtain ⟨h1, h2, h3⟩ := ih (s.raise e)
    obtain ⟨k1, k2, k3, -⟩ := EventQueue.enqueue_settings s.events (e.stamped s.clock) s.clock.now
    exact ⟨h1.trans k1, h2.trans k2, h3.trans k3⟩

/-- R60: the event of a conduit evaluated is the report of any later state of the step that shows the same flags. -/
theorem conduitEvent_report {before s t : State} {c : Conduit} (hc : t.conduit c = s.conduit c)
    (hu : t.uplinks = s.uplinks) : (conduitEvent before s c).toList = before.conduitReport t c := by
  have hu' : ∀ u, t.uplink u = s.uplink u := fun u => by unfold State.uplink; rw [hu]
  have hd : t.downCount c = s.downCount c := by simp only [State.downCount, hu']
  unfold conduitEvent State.conduitReport State.shunnedMembers
  simp only [hc, hd, hu']
  cases (before.conduit c).tripped <;> cases (s.conduit c).tripped <;> rfl

/-- Reports of a list of conduits, one event at most for each. -/
theorem filterMap_conduitEvent {before s t : State} (touched : List Conduit) (hc : t.conduits = s.conduits)
    (hu : t.uplinks = s.uplinks) :
    touched.filterMap (conduitEvent before s) = touched.flatMap (before.conduitReport t) := by
  rw [List.filterMap_eq_flatMap_toList]
  exact congrArg (touched.flatMap ·) (funext fun c => conduitEvent_report (by unfold State.conduit; rw [hc]) hu)

/-! ### The usability evaluation, block by block -/

theorem State.evaluateUsability_conduit (touched : List Conduit) (health : List Event) (s before : State)
    (c : Conduit) :
    (s.evaluateUsability touched health before).conduit c = (State.usabilityFlags touched before s).conduit c := by
  unfold State.conduit
  rw [State.evaluateUsability_frame]

/-- R150 to R152: events queued one after another are handed to the queue. -/
theorem State.raiseAll_hands {s m t : State} (es : List Event) (he : m.events = s.events) (hc : m.clock = t.clock)
    (ht : t.events = (m.raiseAll es).events) : s.Hands t es := by
  refine ⟨?_, fun h => ?_⟩
  · rw [ht, State.raiseAll_events, he, hc]
  · rw [ht, State.raiseAll_room _ _ (by rw [he]; exact h), he, hc]

/-- R151: events handed in two goes at the same time are handed in turn. -/
theorem State.Hands.append {s m t : State} {es fs : List Event} (h1 : s.Hands m es) (h2 : m.Hands t fs)
    (hc : m.clock = t.clock) : s.Hands t (es ++ fs) := by
  refine ⟨?_, fun h => ?_⟩
  · rw [h2.1, h1.1, hc, List.foldl_append]
  · rw [List.length_append] at h
    have hm := h1.2 (by omega)
    rw [h2.2 (by rw [hm, List.length_append, List.length_map]; omega), hm, hc, List.map_append, List.append_assoc]

/-- R53, step 5: the evaluation hands over the events it is given and then the reports of the conduits evaluated. -/
theorem State.evaluateUsability_hands (touched : List Conduit) (health : List Event) (s before : State) :
    s.Hands (s.evaluateUsability touched health before)
      (health ++ touched.flatMap (before.conduitReport (s.evaluateUsability touched health before))) := by
  rw [← filterMap_conduitEvent touched (s := State.usabilityFlags touched before s)
    (by rw [State.evaluateUsability_frame]) (by rw [State.evaluateUsability_frame])]
  refine State.raiseAll_hands (m := (State.usabilityFlags touched before s).markChanged
    (usableChanges before (State.usabilityFlags touched before s))) _ ?_ ?_ rfl
  · rw [State.markChanged_frame, State.usabilityFlags_frame]
  · rw [State.markChanged_frame, State.usabilityFlags_frame, State.evaluateUsability_frame]

/-- R60: a conduit that is not evaluated is not reported. -/
theorem State.conduitReport_untouched {s t : State} {c : Conduit} (h : (t.conduit c).tripped = (s.conduit c).tripped) :
    s.conduitReport t c = [] := by
  unfold State.conduitReport
  rw [h]
  cases (s.conduit c).tripped <;> rfl

/-- The evaluation that follows a write of uplink `u` hands over the events it is given and then the CONDUIT events of
the step, in the order of `State.conduitReports`. -/
theorem State.evaluateUsability_queues (health : List Event) (s before : State) (u : Uplink) (x : UplinkState)
    (hc : s.conduits = before.conduits) :
    s.Hands ((s.setUplink u x).evaluateUsability (touchedConduits (before.uplink u) x) health before)
      (health ++ before.conduitReports
        ((s.setUplink u x).evaluateUsability (touchedConduits (before.uplink u) x) health before) u) := by
  have hh := State.evaluateUsability_hands (touchedConduits (before.uplink u) x) health (s.setUplink u x) before
  suffices hr : (touchedConduits (before.uplink u) x).flatMap (before.conduitReport
      ((s.setUplink u x).evaluateUsability (touchedConduits (before.uplink u) x) health before)) =
      before.conduitReports
        ((s.setUplink u x).evaluateUsability (touchedConduits (before.uplink u) x) health before) u by
    rw [hr] at hh; exact hh
  obtain ⟨a, b, hu⟩ := State.evaluateUsability_uplink (touchedConduits (before.uplink u) x) health (s.setUplink u x)
    before u
  have hx : (((s.setUplink u x).evaluateUsability (touchedConduits (before.uplink u) x) health before).uplink
      u).settings.conduit = x.settings.conduit := by rw [hu]; simp
  have hn : ∀ c, c ∉ touchedConduits (before.uplink u) x → before.conduitReport
      ((s.setUplink u x).evaluateUsability (touchedConduits (before.uplink u) x) health before) c = [] := by
    intro c hnc
    apply State.conduitReport_untouched
    rw [State.evaluateUsability_conduit, State.usabilityFlags_conduit, if_neg hnc]
    simp [State.conduit, hc]
  unfold State.conduitReports
  rw [hx]
  revert hn
  generalize (s.setUplink u x).evaluateUsability (touchedConduits (before.uplink u) x) health before = t
  intro hn
  unfold touchedConduits at hn ⊢
  by_cases hm : (before.uplink u).settings.conduit = x.settings.conduit
  · simp only [hm, ne_eq, not_true_eq_false, if_false, if_true, List.append_nil] at hn ⊢
    split
    · rfl
    · rename_i hs
      simp only [hs, if_false] at hn
      cases hk : x.settings.conduit with
      | none => rfl
      | some c => simp [hn c (by simp)]
  · simp only [hm, ne_eq, not_false_eq_true, if_true, if_false]
    cases (before.uplink u).settings.conduit <;> cases x.settings.conduit <;> rfl

/-- The evaluation that follows a write of uplink `u`: that uplink takes what was written, and of every uplink only the
shunned and usable flags may follow. -/
theorem State.evaluateUsability_becomes (touched : List Conduit) (health : List Event) (s before : State) (u : Uplink)
    (x : UplinkState) : s.UplinkBecomes ((s.setUplink u x).evaluateUsability touched health before) u x := by
  refine ⟨?_, ?_⟩
  · simpa using State.evaluateUsability_uplink touched health (s.setUplink u x) before u
  · intro v hv
    have h := State.evaluateUsability_uplink touched health (s.setUplink u x) before v
    rwa [State.uplink_setUplink, if_neg (Ne.symm hv)] at h

/-- What the evaluation that follows a write of one uplink leaves as it was. -/
theorem State.evaluateUsability_same (touched : List Conduit) (health : List Event) (s before : State) (u : Uplink)
    (x : UplinkState) : s.SameBlocks ((s.setUplink u x).evaluateUsability touched health before) := by
  have hs := State.evaluateUsability_sweep touched health (s.setUplink u x) before
  have he : ∀ t : State, t = (s.setUplink u x).evaluateUsability touched health before →
      t.events.trigger = s.events.trigger ∧ t.events.linger = s.events.linger
        ∧ t.events.urgentImmediate = s.events.urgentImmediate := by
    rintro t rfl
    rw [State.evaluateUsability_eq]
    have h := State.raiseAll_settings
      (health ++ touched.filterMap (conduitEvent before (State.usabilityFlags touched before (s.setUplink u x))))
      ((State.usabilityFlags touched before (s.setUplink u x)).markChanged
        (usableChanges before (State.usabilityFlags touched before (s.setUplink u x))))
    rw [State.markChanged_frame, State.usabilityFlags_frame] at h
    rw [State.markChanged_frame, State.usabilityFlags_frame]
    exact h
  obtain ⟨h1, h2, h3⟩ := he _ rfl
  refine ⟨?_, ?_, ?_, hs.1, hs.2, ?_, h1, h2, h3, ?_, ?_⟩
  · rw [State.evaluateUsability_frame]; rfl
  · rw [State.evaluateUsability_frame]; rfl
  · rw [State.evaluateUsability_frame]; rfl
  · intro c
    rw [State.evaluateUsability_conduit, State.usabilityFlags_conduit]
    split <;> rfl
  · rw [State.evaluateUsability_frame]; rfl
  · rw [State.evaluateUsability_frame]; rfl

/-- R54, R55: which groups a change of usable flags is due to mark, as the evaluation finds them. -/
theorem State.markDue_iff {before s t : State} {g : Group} (hp : s.plans = before.plans) (hb : s.buckets = before.buckets)
    (hs : s.sweep = before.sweep) (ht : t.uplinks = s.uplinks) :
    before.MarkDue t g ↔ (usableChanges before s).any (fun u => s.marksFor u g) = true := by
  have hu : ∀ u, t.uplink u = s.uplink u := fun u => by unfold State.uplink; rw [ht]
  have hi : ∀ b, s.planIn b g = before.planIn b g := fun b => by unfold State.planIn; rw [hp]
  have hg : s.group g = before.group g := by unfold State.group; rw [hb]
  have hv : s.servedPlan g = before.servedPlan g := by unfold State.servedPlan; rw [hg, hi]
  have hn : ∀ (p : Plan) (u : Uplink), p.names u = true ↔ ∃ m ∈ p.members, m.uplink = u := by
    intro p u; simp [Plan.names]
  have hm : ∀ u, s.marksFor u g = true ↔ (∃ m ∈ (before.servedPlan g).members, m.uplink = u)
      ∨ ∃ p b, before.sweep.pass = some p ∧ p.group = g ∧ p.flags.replan = true
          ∧ ∃ m ∈ (before.planIn b g).members, m.uplink = u := by
    intro u
    have ho : (before.group g).selector ≠ (before.group g).selector.other := by
      cases (before.group g).selector <;> decide
    unfold State.marksFor State.underReplan
    rw [hv, hg, hi, hs, Bool.or_eq_true, Bool.and_eq_true, hn, hn]
    constructor
    · rintro (h | ⟨h1, h2⟩)
      · exact Or.inl h
      · cases hpass : before.sweep.pass with
        | none => rw [hpass] at h1; exact absurd h1 (by simp)
        | some p =>
          rw [hpass] at h1
          simp only [Bool.and_eq_true, decide_eq_true_eq] at h1
          exact Or.inr ⟨p, _, rfl, h1.1, h1.2, h2⟩
    · rintro (h | ⟨p, b, h1, h2, h3, h4⟩)
      · exact Or.inl h
      · by_cases hbk : b = (before.group g).selector
        · exact Or.inl (by rw [hbk] at h4; exact h4)
        · refine Or.inr ⟨by simp [h1, h2, h3], ?_⟩
          have : b = (before.group g).selector.other := by
            revert hbk; cases b <;> cases (before.group g).selector <;> decide
          rwa [← this]
  unfold State.MarkDue usableChanges
  rw [List.any_eq_true]
  constructor
  · rintro ⟨u, h1, h2⟩
    exact ⟨u, List.mem_filter.2 ⟨List.mem_finRange u, decide_eq_true fun h => h1 ((hu u ▸ h.symm))⟩, (hm u).2 h2⟩
  · rintro ⟨u, h1, h2⟩
    exact ⟨u, fun h => of_decide_eq_true (List.mem_filter.1 h1).2 (h.symm.trans (by rw [hu])), (hm u).1 h2⟩

/-- R54, R55, R97, R114: the marks of a usability evaluation, and the episode they may open. -/
theorem State.evaluateUsability_marks (touched : List Conduit) (health : List Event) (s before : State)
    (hp : s.plans = before.plans) (hb : s.buckets = before.buckets) (hs : s.sweep = before.sweep) :
    before.MarksDirty (s.evaluateUsability touched health before) := by
  obtain ⟨f, hf⟩ : ∃ f, f = State.usabilityFlags touched before s := ⟨_, rfl⟩
  have fp : f.plans = before.plans := by rw [hf, State.usabilityFlags_frame]; exact hp
  have fb : f.buckets = before.buckets := by rw [hf, State.usabilityFlags_frame]; exact hb
  have fs : f.sweep = before.sweep := by rw [hf, State.usabilityFlags_frame]; exact hs
  have fc : f.clock = s.clock := by rw [hf, State.usabilityFlags_frame]
  have hd : (s.evaluateUsability touched health before).sweep = (f.markChanged (usableChanges before f)).sweep := by
    rw [State.evaluateUsability_eq, State.raiseAll_sweep, hf]
  have hk : (s.evaluateUsability touched health before).clock = f.clock := by rw [State.evaluateUsability_frame, fc]
  have hdue : ∀ g, before.MarkDue (s.evaluateUsability touched health before) g
      ↔ (usableChanges before f).any (fun u => f.marksFor u g) = true := fun g =>
    State.markDue_iff fp fb fs (by rw [State.evaluateUsability_frame, hf])
  unfold State.MarksDirty
  simp only [hdue, hd, hk, State.find_markChanged, State.markChanged_episode, fs]
  refine ⟨?_, ?_, ?_, ?_, ?_, ?_⟩
  · intro g e he
    rw [he]
    cases e
    split <;> simp [DirtyFlags.merge]
  · rintro g ⟨hg, hm⟩; rw [if_pos hm, hg]; rfl
  · intro g hg hm; rw [if_neg hm, hg]
  · intro e he; unfold State.episodeAfter; rw [fs, he]
  · rintro he ⟨g, hg, hm⟩
    have : f.makesNew (fun g => (usableChanges before f).any fun u => f.marksFor u g) = true :=
      (State.makesNew_iff _ _).2 ⟨g, hm, by rw [fs]; exact hg⟩
    unfold State.episodeAfter
    rw [fs, he, this]
    rfl
  · intro he hnone
    have : ¬ f.makesNew (fun g => (usableChanges before f).any fun u => f.marksFor u g) = true := fun h => by
      obtain ⟨g, hm, hg⟩ := (State.makesNew_iff _ _).1 h
      exact hnone g ⟨by rw [← fs]; exact hg, hm⟩
    unfold State.episodeAfter
    rw [fs, he]
    simp only [this]
    rfl

@[simp] theorem State.evaluateUsability_fwd (touched : List Conduit) (health : List Event) (s before : State) :
    (s.evaluateUsability touched health before).fwd = s.fwd := by rw [State.evaluateUsability_frame]
@[simp] theorem State.evaluateUsability_control (touched : List Conduit) (health : List Event) (s before : State) :
    (s.evaluateUsability touched health before).control = s.control := by rw [State.evaluateUsability_frame]
@[simp] theorem State.evaluateUsability_clock (touched : List Conduit) (health : List Event) (s before : State) :
    (s.evaluateUsability touched health before).clock = s.clock := by rw [State.evaluateUsability_frame]

/-! ### The protection machine -/

/-- R13: the machine writes health and the two timers, and raises at most one event. -/
theorem UplinkState.protect_shape (x : UplinkState) (u : Uplink) (now : Nat) (before : Defects) :
    (∃ h ho wr, (x.protect u now before).1 = { x with health := h, holdOffTimer := ho, restoreTimer := wr })
      ∧ (x.protect u now before).2.length ≤ 1 := by
  unfold UplinkState.protect UplinkState.startCheck UplinkState.judge UplinkState.restore UplinkState.goUp
    UplinkState.goDown
  refine ⟨?_, ?_⟩
  · repeat' split
    all_goals exact ⟨_, _, _, rfl⟩
  · repeat' split
    all_goals simp

/-- R13: a defect set that does not change does nothing. -/
theorem UplinkState.protect_self (x : UplinkState) (u : Uplink) (now : Nat) :
    x.protect u now x.defects = (x, []) := by
  unfold UplinkState.protect; rw [if_pos rfl]

/-- R22: with no source changed, no latch is set. -/
@[simp] theorem UplinkState.latch_self (x : UplinkState) : x.latch x = x := by
  have h1 : ∀ b : Bool, (!b && b) = false := by decide
  have h2 : ∀ c : Continuity, (decide (c = .established) && decide (c = .lost)) = false := by
    intro c; cases c <;> rfl
  simp only [UplinkState.latch, h1, h2, Bool.or_false]

/-- R22: the latches that a change of the probe state alone can set. -/
theorem UplinkState.latch_probe {old x : UplinkState} (hq : x.qualLos = old.qualLos) (hl : x.latches = old.latches)
    (hc : x.continuity = old.continuity ∨ x.continuity ≠ .lost) :
    old.latch x = { x with latches := { old.latches with
      rdi := old.latches.rdi || (!old.rdi && x.rdi), sd := old.latches.sd || (!old.degraded && x.degraded) } } := by
  have h1 : ∀ b : Bool, (!b && b) = false := by decide
  have h2 : (decide (old.continuity = .established) && decide (x.continuity = .lost)) = false := by
    rcases hc with h | h
    · rw [h]; cases old.continuity <;> rfl
    · simp [h]
  simp only [UplinkState.latch, hl, hq, h1, h2, Bool.or_false]

/-- R53, step 1: at most two conduits are evaluated, and at most one where the membership does not change. -/
theorem touchedConduits_length (old x : UplinkState) :
    (touchedConduits old x).length ≤ 2
      ∧ (old.settings.conduit = x.settings.conduit → (touchedConduits old x).length ≤ 1) := by
  unfold touchedConduits
  constructor
  · split
    · exact le_trans (List.length_filterMap_le _ _) (by simp)
    · split
      · cases x.settings.conduit <;> simp
      · simp
  · intro h
    rw [if_neg (by simp [h])]
    split
    · cases x.settings.conduit <;> simp
    · simp

/-! ### Nothing changes when nothing changes -/

/-- Writing what an uplink holds changes nothing. -/
@[simp] theorem State.setUplink_same (s : State) (u : Uplink) : s.setUplink u (s.uplink u) = s := by
  have h : (s.setUplink u (s.uplink u)).uplinks = s.uplinks := by
    apply State.uplinks_ext
    intro v
    rw [State.uplink_setUplink]
    split
    · rename_i h; rw [h]
    · rfl
  unfold State.setUplink at *
  simp only at h
  rw [h]

/-- The usability evaluation with nothing to evaluate and nothing changed. -/
theorem State.evaluateUsability_self (s : State) : s.evaluateUsability [] [] s = s := by
  have h1 : s.writeTripped [] = s := by
    have h : (Vector.ofFn fun c => if c ∈ ([] : List Conduit) then { s.conduit c with tripped := s.trippedDue c }
        else s.conduit c) = s.conduits := vector_ext_get fun i => by simp [State.conduit]
    unfold State.writeTripped
    rw [h]
  have h2 : State.writeShunned [] s s = s := by
    have h : (Vector.ofFn fun u => if shunWritten [] (s.uplink u) (s.uplink u) then
        { s.uplink u with shunned := s.shunnedDue u } else s.uplink u) = s.uplinks := vector_ext_get fun i => by
      rw [vector_get_ofFn, if_neg]
      · rfl
      · unfold shunWritten; cases (s.uplink i).settings.conduit <;> simp
    unfold State.writeShunned
    rw [h]
  have h3 : State.writeUsable s s = s := by
    have h : (Vector.ofFn fun u => if usableInputsChanged (s.uplink u) (s.uplink u) then
        { s.uplink u with usable := (s.uplink u).usableDue } else s.uplink u) = s.uplinks := vector_ext_get fun i => by
      rw [vector_get_ofFn, if_neg]
      · rfl
      · simp [usableInputsChanged]
    unfold State.writeUsable
    rw [h]
  have h4 : State.usabilityFlags [] s s = s := by unfold State.usabilityFlags; rw [h1, h2, h3]
  have h5 : usableChanges s s = [] := by simp [usableChanges]
  rw [State.evaluateUsability_eq, h4, h5]
  rfl

/-- R48: handing over an uplink as it is changes nothing. -/
theorem State.handOver_same (u : Uplink) (s : State) : s.handOver u (s.uplink u) = s := by
  have h1 : degradeEvents u (s.uplink u) (s.uplink u) = [] := by
    unfold degradeEvents; cases (s.uplink u).degraded <;> rfl
  have h2 : touchedConduits (s.uplink u) (s.uplink u) = [] := by simp [touchedConduits]
  unfold State.handOver
  rw [h1, State.setUplink_same]
  simp only [State.raiseAll_nil, State.settleUplink, UplinkState.latch_self, UplinkState.protect_self,
    State.setUplink_same, h2, State.evaluateUsability_self]

/-- R48, R13, R53: what a handing over of uplink `u` as `x` can do. It takes `x` with the latches its changes set (R22)
and the health and timers the protection machine gives; nothing beyond the uplinks, marks and events changes. -/
theorem State.handOver_spec (u : Uplink) (x : UplinkState) (s : State) :
    ∃ h ho wr, s.SameBeyondUplinks (s.handOver u x) ∧ (s.handOver u x).fwd = s.fwd
      ∧ (s.handOver u x).control = s.control ∧ (s.handOver u x).clock = s.clock
      ∧ s.UplinkBecomes (s.handOver u x) u
        { (s.uplink u).latch x with health := h, holdOffTimer := ho, restoreTimer := wr } := by
  obtain ⟨s1, hs1⟩ : ∃ s1, s1 = (s.setUplink u x).raiseAll (degradeEvents u (s.uplink u) x) := ⟨_, rfl⟩
  have hx : s1.uplink u = x := by simp [hs1]
  obtain ⟨y, hy⟩ : ∃ y, y = ((s.uplink u).latch x).protect u s1.clock.now (s.uplink u).defects := ⟨_, rfl⟩
  obtain ⟨⟨h, ho, wr, hp⟩, -⟩ :=
    UplinkState.protect_shape ((s.uplink u).latch x) u s1.clock.now (s.uplink u).defects
  rw [← hy] at hp
  have e : s.handOver u x =
      (s1.setUplink u y.1).evaluateUsability (touchedConduits (s.uplink u) y.1) y.2 s := by
    rw [hy, ← hx, hs1]
    simp [State.handOver, State.settleUplink]
  obtain ⟨a1, a2, a3, a4, a5, a6, a7, a8, a9, a10, a11⟩ :=
    State.evaluateUsability_same (touchedConduits (s.uplink u) y.1) y.2 s1 s u y.1
  obtain ⟨b1, b2⟩ := State.evaluateUsability_becomes (touchedConduits (s.uplink u) y.1) y.2 s1 s u y.1
  obtain ⟨k1, k2, k3⟩ := State.raiseAll_settings (degradeEvents u (s.uplink u) x) (s.setUplink u x)
  rw [← hs1] at k1 k2 k3
  rw [e]
  refine ⟨h, ho, wr, ⟨⟨a1.trans ?_, a2.trans ?_, a3.trans ?_, a4.trans ?_, a5.trans ?_, fun c => (a6 c).trans ?_,
    a7.trans k1, a8.trans k2, a9.trans k3, a10.trans ?_, a11.trans ?_⟩,
    State.evaluateUsability_marks _ _ (s1.setUplink u y.1) s ?_ ?_ ?_⟩, ?_, ?_, ?_, ?_, fun v hv => ?_⟩
  case refine_15 => rw [← hp]; exact b1
  case refine_16 =>
    have hb := b2 v hv
    rwa [show s1.uplink v = s.uplink v by simp [hs1, State.uplink_setUplink, Ne.symm hv]] at hb
  case refine_6 => rw [hs1, State.raiseAll_conduit]; rfl
  all_goals simp [hs1]

/-- R47: at most one event reports a change of the degraded flag. -/
theorem degradeEvents_length (u : Uplink) (old x : UplinkState) : (degradeEvents u old x).length ≤ 1 := by
  unfold degradeEvents
  cases old.degraded <;> cases x.degraded <;> simp

/-- R48, R53: the events a handing over queues: the report of the degraded flag, that of the protection machine, then
the CONDUIT events. -/
theorem State.handOver_queues (u : Uplink) (x : UplinkState) (s : State) :
    s.Queues (s.handOver u x) u
      (degradeEvents u (s.uplink u) x ++ (((s.uplink u).latch x).protect u s.clock.now (s.uplink u).defects).2) := by
  obtain ⟨s1, hs1⟩ : ∃ s1, s1 = (s.setUplink u x).raiseAll (degradeEvents u (s.uplink u) x) := ⟨_, rfl⟩
  have hx : s1.uplink u = x := by simp [hs1]
  have hk : s1.clock = s.clock := by simp [hs1]
  obtain ⟨y, hy⟩ : ∃ y, y = ((s.uplink u).latch x).protect u s.clock.now (s.uplink u).defects := ⟨_, rfl⟩
  have e : s.handOver u x =
      (s1.setUplink u y.1).evaluateUsability (touchedConduits (s.uplink u) y.1) y.2 s := by
    rw [hy, ← hk, ← hx, hs1]
    simp [State.handOver, State.settleUplink]
  have h1 : s.Hands s1 (degradeEvents u (s.uplink u) x) :=
    State.raiseAll_hands (m := s.setUplink u x) _ rfl (by rw [hk]; rfl) (by rw [hs1])
  have h2 := State.evaluateUsability_queues y.2 s1 s u y.1 (by simp [hs1])
  unfold State.Queues
  rw [← hy, e, List.append_assoc]
  exact h1.append h2 (by simp)

/-! ### The window (R44) -/

/-- R44: outcomes pushed one after another leave the last 32 of the window and them. -/
theorem pushOutcome_foldl (w l : List ProbeOutcome) (hw : w.length ≤ 32) :
    l.foldl pushOutcome w = (w ++ l).drop (w.length + l.length - 32) := by
  induction l generalizing w with
  | nil => simp [show w.length - 32 = 0 by omega]
  | cons a l ih =>
    rw [List.foldl_cons, show pushOutcome w a = if w.length < 32 then w ++ [a] else w.tail ++ [a] from rfl]
    split
    · rw [ih _ (by simp; omega)]
      simp only [List.length_append, List.length_cons, List.length_nil, List.append_assoc, List.cons_append,
        List.nil_append]
      congr 1
      omega
    · have hlen : w.length = 32 := by omega
      rw [ih _ (by simp; omega)]
      cases w with
      | nil => simp at hlen
      | cons b w =>
        simp only [List.length_cons, List.tail_cons, List.length_append, List.cons_append, List.length_nil]
        rw [show w.length + 1 + (l.length + 1) - 32 = (w.length + (0 + 1) + l.length - 32) + 1 by
          simp only [List.length_cons] at hlen; omega, List.drop_succ_cons]
        simp

end Sys2Proof.Machine
end

