-- ==== Sys2Proof/Tests/Slice0.lean ====
section
/-! SUPPORT. Small tests, each on one step or one operation, with expected values from the manual's worked examples; and
for each statement with hypotheses, a state and operands that meet them. -/

namespace Sys2Proof.Tests

open Sys2Proof Sys2Proof.Machine

/-! ### Helpers -/

/-- The state a command leads to. -/
def after (c : Instr) (s : State) : State :=
  match exec c s with
  | .next t => t
  | .fault _ | .refused _ => s

/-- The state after reset with one uplink changed. -/
def withUplink (u : Uplink) (f : UplinkState → UplinkState) : State :=
  State.reset.setUplink u (f (UplinkState.reset false false))

/-- The state after reset with the forwarding link UP. -/
def linked (s : State) : State :=
  { s with fwd := { s.fwd with linkUp := true, silenceTimer := some { expiry := 10000, given := 10 } } }

/-- An ACTIVE, UP uplink with the default settings. -/
def upUplink (x : UplinkState) : UplinkState := { x with admin := .active, health := .up, usable := true }

/-- The same, probing with interval 10 ms and multiplier 3, ESTABLISHED, last accepted sequence 40, a deadline at 30 ms,
hold-off 0 (section 2.12, with an empty window). -/
def probingUplink (x : UplinkState) : UplinkState :=
  { upUplink x with
    settings := { x.settings with multiplier := 3, setThreshold := 3, clearThreshold := 1 },
    clock := .running 0 0, continuity := .established, deadline := .running 30000, lastAccepted := some 40#8 }

/-- A PROBE-IN for U7: sequence, flags, and whether its body check holds. -/
def probeIn (seq flags : Byte) (good : Bool) : Record :=
  Record.sealed 0x21#8 7#8 seq flags (if good then ~~~seq else seq) (~~~flags) 0#8

/-- A LOOKUP-REQ on L0 for G5 with tag 1 and hash 41,234. -/
def lookupReq : Record := Record.sealed 0x11#8 0x00#8 0x05#8 0x00#8 0x01#8 0xA1#8 0x12#8

/-- A SYNC record. -/
def sync : Record := Record.sealed 0x5A#8 0#8 0#8 0#8 0#8 0#8 0#8

/-- A plan over U0, U1, ... with these weights. -/
def planOf (weights : List Nat) (revert : RevertMode) : Plan :=
  { members := (List.finRange 16).zipWith (fun u w => { uplink := u, weight := w }) weights, fold := .direct, revert,
    fallback := none, emptyAction := .punt }

/-- The current slots of an array, as numbers. -/
def currents (a : BucketArray) : List Nat := a.toList.map fun b => (b.current.map (·.val)).getD 99

/-! ### Well-formedness: ill-formed terms are refused -/

theorem test_wf_probe_of_other_kind : (Instr.probeInReceived sync).wf = false := by decide
theorem test_wf_sync_of_other_kind : (Instr.syncReceived lookupReq).wf = false := by decide
theorem test_wf_lookup_with_bad_sum : (Instr.lookupReqReceived { lookupReq with b7 := 0#8 }).wf = false := by decide
theorem test_wf_faulty_that_is_valid : (Instr.faultyRecordReceived (some sync)).wf = false := by decide
theorem test_wf_plan_too_long : (Instr.writePlan 0#8
    { group := 0#16, fold := 0#8, revert := 0#8, fallback := 0xFFFF#16, emptyAction := 0#8,
      members := List.replicate 253 (0#8, 1#8) }).wf = false := by decide +kernel
theorem test_wf_command_too_long : (Command.writePlan
    { group := 0#16, fold := 0#8, revert := 0#8, fallback := 0xFFFF#16, emptyAction := 0#8,
      members := List.replicate 253 (0#8, 1#8) }).wf = false := by decide +kernel
theorem test_wf_frame_too_long (body : List Byte) (check : Half) (h : 65536 ≤ body.length) :
    (Instr.frameReceived body check).wf = false := by simp [Instr.wf]; omega
theorem test_wf_row_of_its_kind : (Instr.syncReceived sync).wf = true := by decide

/-! ### Folds, shares, home and passes (worked figures of chapter 5) -/

theorem test_fold_41234 : foldHash .direct 41234#16 = 18 ∧ foldHash .fold 41234#16 = 28 := by decide
theorem test_fold_65535 : foldHash .direct 65535#16 = 63 ∧ foldHash .fold 65535#16 = 15 := by decide
theorem test_shares_two_one : apportion [(0, 2), (1, 1)] = [(0, 43), (1, 21)] := by decide
theorem test_shares_three_equal : apportion [(0, 1), (1, 1), (2, 1)] = [(0, 22), (1, 21), (2, 21)] := by decide
theorem test_shares_three_two_two_one :
    apportion [(0, 3), (1, 2), (2, 2), (3, 1)] = [(0, 24), (1, 16), (2, 16), (3, 8)] := by decide

/-- Section 5.6.1: M0 of 3, 2, 2, 1 lost; the deal of its 24 buckets. -/
theorem test_pass_deals_section_5_6_1 :
    (currents (passArray (planOf [3, 2, 2, 1] .revertive) false (Vector.ofFn fun u => decide (u ≠ 0))
      (homeArray (planOf [3, 2, 2, 1] .revertive)))).take 24 =
      [1, 1, 2, 1, 2, 1, 2, 1, 2, 1, 2, 3, 1, 2, 3, 1, 2, 3, 1, 2, 3, 1, 2, 3] := by decide +kernel

/-- Section 5.6.2: M1 of three equal members lost. -/
theorem test_pass_deals_section_5_6_2 :
    ((currents (passArray (planOf [1, 1, 1] .revertive) false (Vector.ofFn fun u => decide (u ≠ 1))
      (homeArray (planOf [1, 1, 1] .revertive)))).drop 22).take 4 = [2, 0, 2, 0] := by decide +kernel

/-- Section 5.6.3: a single member lost: nothing moves, and the group is evacuated. -/
theorem test_pass_evacuates_section_5_6_3 :
    passArray (planOf [3] .revertive) false (Vector.replicate 16 false) (homeArray (planOf [3] .revertive))
        = homeArray (planOf [3] .revertive)
      ∧ passEvacuated (planOf [3] .revertive) (Vector.replicate 16 false) = true := by decide +kernel

/-- R96's table: stand-ins for a four-member plan. -/
theorem test_stand_ins_of_R96 :
    standIn (planOf [1, 1, 1, 1] .revertive) (Vector.ofFn fun u => decide (u ≠ 0)) 0 = some 1
      ∧ standIn (planOf [1, 1, 1, 1] .revertive) (Vector.ofFn fun u => decide (u = 0 ∨ u = 3)) 1 = some 3
      ∧ standIn (planOf [1, 1, 1, 1] .revertive) (Vector.ofFn fun u => decide (u = 1 ∨ u = 2)) 3 = some 1
      ∧ standIn (planOf [1, 1, 1, 1] .revertive) (Vector.replicate 16 false) 2 = none := by decide +kernel

/-! ### Records and frames (worked check bytes of chapter 11) -/

theorem test_sync_check_byte : syncRecord.b7 = 0xA6#8 := by decide
theorem test_probe_out_check_byte :
    ProbeOut.record { uplink := 7, seq := 0x29#8, rdi := false } =
      { b0 := 0x22#8, b1 := 0x07#8, b2 := 0x29#8, b3 := 0x00#8, b4 := 0xD6#8, b5 := 0xFF#8, b6 := 0x00#8,
        b7 := 0xD9#8 } := by decide
theorem test_get_status_frame :
    frameBytes (Command.getStatus.frameBody 0x07#8) (checkOf (lengthAndBody (Command.getStatus.frameBody 0x07#8))) =
      [0xC3#8, 0x00#8, 0x02#8, 0x02#8, 0x07#8, 0xFF#8, 0xF5#8] := by decide
theorem test_lookup_req_fields :
    lookupReq.lane = 0 ∧ lookupReq.groupField = 5#12 ∧ lookupReq.reqTag = 1#16 ∧ lookupReq.hash = 41234#16 := by
  decide

/-! ### One step each -/

/-- Section 1.2.1: raw LOS asserts on an ACTIVE uplink: the loss-qualify timer runs to 50 µs. -/
theorem test_los_assert :
    ((after (.losAssert 5) (withUplink 5 upUplink)).uplink 5).lossTimer = some 50 := by decide +kernel

/-- Section 1.10: the loss-qualify expiry of an UP uplink with hold-off 50 ms. -/
theorem test_loss_qualify_expiry :
    ((after (.lossQualifyExpiry 3) (withUplink 3 fun x =>
      { upUplink x with settings := { x.settings with holdOff := 50 }, losPin := true, rawLos := true,
                        lossTimer := some 50 })).uplink 3).holdOffTimer = some 50050 := by decide +kernel

/-- R148: an expiry half a second after 9.75 s on the time base: the seconds count on. -/
theorem test_expiry_advances_the_time_base :
    (after (.lossQualifyExpiry 3) { withUplink 3 (fun x => { upUplink x with rawLos := true, lossTimer := some 500700 }) with
        clock := { seconds := 9#32, micros := 750000, now := 700 } }).clock
      = { seconds := 10#32, micros := 250000, now := 500700 } := by decide +kernel

/-- Section 2.12, row 2: an ERRORED arrival at 10 ms: the deadline moves to 40 ms. -/
theorem test_errored_arrival :
    ((after (.probeInReceived (probeIn 42#8 0#8 false)) (linked { withUplink 7 probingUplink with
      clock := { seconds := 0#32, micros := 10000, now := 10000 } })).uplink 7).deadline = .running 40000 := by
  decide +kernel

/-- Section 2.12, row 4: sequence 44 after 40 with one errored arrival between: one MISSED and one GOOD. -/
theorem test_gap_of_three :
    ((after (.probeInReceived (probeIn 44#8 0#8 true)) (linked (withUplink 7 fun x =>
      { probingUplink x with errored := 1, lastAccepted := some 41#8 }))).uplink 7).window = [.missed, .good] := by
  decide +kernel

/-- Section 2.12, row 8: the deadline's expiry at 30 ms takes U7, UP with a hold-off of 0, to DOWN. -/
theorem test_deadline_expiry :
    ((after (.continuityDeadlineExpiry 7) (linked (withUplink 7 probingUplink))).uplink 7).health = .down := by
  decide +kernel

/-- Section 7.8, step 4: a request on a disabled lane is answered REFUSED. -/
theorem test_disabled_lane_refuses :
    ((after (.lookupReqReceived lookupReq) (linked (State.reset.setLane 0 { LaneState.reset with enabled := false }))
      ).fwd.refusals.map (·.result)) = [.refused] := by decide +kernel

/-- R143: a refusal handed while both places of the list are taken (log entry 10). -/
theorem test_refusal_list_has_two_places :
    let a (tag : Half) : Answer := refusalAnswer 0 tag .refused
    let t := after (.lookupReqReceived lookupReq)
      { linked (State.reset.setLane 0 { LaneState.reset with enabled := false }) with
        fwd := { (linked State.reset).fwd with refusals := [a 8#16, a 9#16] } }
    t.fwd.refusals = [a 9#16, a 1#16] ∧ t.fwd.ftx = some (a 8#16).record := by decide +kernel

/-- R128: the service of a request that names group 1,024 is settled PUNT with RANGE. -/
theorem test_range_is_punted :
    ((after .serviceBegin (linked (State.reset.setLane 2 { LaneState.reset with
      queue := [{ lane := 2, tag := 7#16, group := 1024#12, hash := 0#16 }] }))).lookup.serving.map
        fun a => (a.result, a.range)) = some (.punt, true) := by decide +kernel

/-- Section 8.8: the silence expiry at 10 ms takes the link DOWN and reports 10 ms and 40 errors. -/
theorem test_silence_expiry :
    ((after .silenceExpiry (linked { State.reset with fwd := { State.reset.fwd with headerErrors := 40 } }
      )).events.records.map (·.event)) = [.fwdLinkDown 10 40] := by decide +kernel

/-- Section 9.9, at 22 ms: a fetch of e1 re-aims the timer at e2, enqueued at 5 ms, and deasserts the line. -/
theorem test_fetch_re_aims :
    let e (t : Nat) : EventRecord :=
      { event := .fwdLinkUp .sync, seconds := 0#32, micros := t, enqueuedAt := t }
    let q : EventQueue :=
      { records := [e 0, e 5000], lost := false, trigger := 8, linger := 20, urgentImmediate := false,
        lingerTimer := .expired, alert := true }
    (q.fetch 1 22000).lingerTimer = .running 25000 ∧ (q.fetch 1 22000).alert = false := by decide

/-- Section 9.10 in small: at a full queue of one ROUTINE record before 63 URGENT ones, an URGENT record takes the
place of the ROUTINE one. -/
theorem test_full_queue_displaces :
    let u : EventRecord :=
      { event := .conduitTrip 1 1 1 (Vector.replicate 16 false), seconds := 0#32, micros := 0, enqueuedAt := 0 }
    let r : EventRecord := { event := .swapDone .A, seconds := 0#32, micros := 0, enqueuedAt := 0 }
    let q : EventQueue := { EventQueue.reset with records := r :: List.replicate 63 u }
    (q.enqueue u 0).records = List.replicate 64 u ∧ (q.enqueue u 0).lost = true
      ∧ (q.enqueue r 0).records = q.records := by decide +kernel

/-- R151, R152 of a step: the link goes DOWN with 64 ROUTINE records queued, and FWD-LINK-DOWN takes the place of the
newest. -/
theorem test_full_queue_step :
    let r : EventRecord := { event := .swapDone .A, seconds := 0#32, micros := 0, enqueuedAt := 0 }
    let t := after .silenceExpiry
      (linked { State.reset with events := { EventQueue.reset with records := List.replicate 64 r } })
    t.events.records.length = 64 ∧ t.events.lost = true
      ∧ (t.events.records.drop 62).map (·.event) = [.swapDone .A, .fwdLinkDown 10 0] := by decide +kernel

/-- R168, section 11.3: IDENTIFY's reply on the line, tag 01h: type, tag, status, the clamped flag, and 16 bytes of items. -/
theorem test_identify_reply :
    ((after (.identify 0x01#8) State.reset).control.replies.map fun r => (r.frameBody.take 6, r.frameBody.length)) =
      [([0x01#8, 0x01#8, 0#8, 0#8, 0x00#8, 0x16#8], 20)] := by decide +kernel

/-- Section 10.1: a GET-STATUS frame is received whole and answered; with one check byte wrong it is counted. -/
theorem test_frame_received :
    (after (.frameReceived [0x02#8, 0x07#8] 0xFFF5#16) State.reset).control.replies.length = 1
      ∧ (after (.frameReceived [0x02#8, 0x07#8] 0xFFF4#16) State.reset).control.frameErrors = 1 := by decide +kernel

/-! ### Witnesses: for each statement, a state and operands that meet its hypotheses, clause by clause -/

theorem reset_free : State.reset.PortFree := ⟨rfl, rfl, rfl, rfl⟩

theorem uplink_with (u v : Uplink) (f : UplinkState → UplinkState) :
    (withUplink u f).uplink v = if u = v then f (UplinkState.reset false false) else UplinkState.reset false false := by
  rw [withUplink, State.uplink_setUplink]
  congr 1
  exact vector_get_replicate _ _

theorem free_with (u : Uplink) (f : UplinkState → UplinkState) : (withUplink u f).PortFree := ⟨rfl, rfl, rfl, rfl⟩

/-- The state after reset, held by the RESET input. -/
def held : State := { State.reset with resetHeld := true }

theorem witness_EmptyQueueTicks :
    (held.pending = [] ∧ held.resetHeld = true)
      ∧ (State.reset.pending = [] ∧ State.reset.resetHeld = false ∧ State.reset.clock.micros < 1000000)
      ∧ ∃ s : State, s.pending = [] ∧ s.resetHeld = false ∧ s.clock.micros = 999999 :=
  ⟨⟨rfl, rfl⟩, ⟨rfl, rfl, by decide⟩,
    { State.reset with clock := { seconds := 0#32, micros := 999999, now := 0 } }, rfl, rfl, rfl⟩

theorem witness_ResetInputResetsEveryBlock :
    held.resetHeld = true ∧ State.reset.control.replies = [] ∧ (∀ tag : Byte,
      (after (.identify 7#8) State.reset).control.inHand ≠ some { tag, command := .reset }) :=
  ⟨rfl, rfl, nofun⟩

/-- R173, last paragraph: RESET taken, then the RESET input asserted: the reply is sent, and the part is reset and held.
R175: the reply of another command is not sent. -/
theorem test_reset_input_after_reset_command :
    let t := after .resetInputAssert (after (.reset 9#8) State.reset)
    let w := after .resetInputAssert (after (.identify 9#8) State.reset)
    t.control.ctx = some { type := 0x3F#8, tag := 9#8, body := .ok false [] } ∧ t.control.inHand = none
      ∧ t.control.replies = [] ∧ t.resetHeld = true ∧ w.control.ctx = none ∧ w.control.replies = [] := by
  decide +kernel

theorem witness_ResetCommandResetsAfterItsReply :
    State.reset.PortFree ∧ ∃ (tag : Byte) (r : Reply) (rest : List Reply) (s : State), s.resetHeld = false
      ∧ s.control.inHand = some { tag, command := .reset } ∧ s.control.replies = r :: rest :=
  ⟨reset_free, 9#8, { type := 0x3F#8, tag := 9#8, body := .ok false [] }, [],
    after (.reset 9#8) State.reset, rfl, rfl, rfl⟩

theorem witness_HeldPartIgnoresEvents :
    held.resetHeld = true ∧ ∃ c : Instr, c ≠ .resetInputAssert ∧ c ≠ .resetInputRelease
      ∧ ∀ u, c ≠ .losAssert u ∧ c ≠ .losDeassert u :=
  ⟨rfl, .passBegin, by decide, by decide, fun u => ⟨nofun, nofun⟩⟩

theorem witness_LosEdgesFollowTheFilter :
    let active := withUplink 0 upUplink
    let dark := withUplink 15 fun x => { upUplink x with losPin := true, rawLos := true, qualLos := true }
    let asserted := withUplink 3 fun x => { x with losPin := true, rawLos := true }
    (active.resetHeld = false ∧ (active.uplink 0).rawLos = false ∧ (active.uplink 0).monitored = true)
      ∧ (dark.resetHeld = false ∧ (dark.uplink 15).rawLos = true ∧ (dark.uplink 15).monitored = true)
      ∧ (active.resetHeld = false ∧ (active.uplink 1).rawLos = false ∧ (active.uplink 1).monitored = false)
      ∧ (asserted.resetHeld = false ∧ (asserted.uplink 3).rawLos = true ∧ (asserted.uplink 3).monitored = false) := by
  decide

theorem witness_QualifyExpiriesSetQualifiedLos :
    let losing := withUplink 0 fun x => { upUplink x with rawLos := true, lossTimer := some 50 }
    let lighting := withUplink 15 fun x => { upUplink x with qualLos := true, lightTimer := some 100000 }
    (losing.resetHeld = false ∧ (losing.uplink 0).lossTimer = some 50 ∧ (losing.uplink 0).lightTimer = none)
      ∧ (lighting.resetHeld = false ∧ (lighting.uplink 15).lightTimer = some 100000
          ∧ (lighting.uplink 15).lossTimer = none) := by decide

theorem witness_JudgementExpiriesDecideHealth :
    let holding := withUplink 0 fun x =>
      { x with admin := .active, health := .holdoff, qualLos := true, holdOffTimer := some 50050 }
    let restoring := withUplink 15 fun x =>
      { x with admin := .active, health := .restoring, restoreTimer := some 60000000 }
    (holding.resetHeld = false ∧ (holding.uplink 0).holdOffTimer = some 50050
        ∧ (holding.uplink 0).restoreTimer = none ∧ holding.events.records.length ≤ 62)
      ∧ (restoring.resetHeld = false ∧ (restoring.uplink 15).restoreTimer = some 60000000
        ∧ (restoring.uplink 15).holdOffTimer = none ∧ restoring.events.records.length ≤ 62) := by decide

theorem witness_ForceRestoreOnlyFromRestoring :
    let s := withUplink 15 fun x => { x with admin := .active, health := .restoring, restoreTimer := some 60000000 }
    s.PortFree ∧ (15#8).toNat = (15 : Uplink).val ∧ (s.uplink 15).health = .restoring
      ∧ (s.uplink 0).health ≠ .restoring ∧ (0#8).toNat = (0 : Uplink).val ∧ 15 < (16#8).toNat
      ∧ s.events.records.length ≤ 62 := by
  refine ⟨free_with _ _, ?_⟩
  decide

/-- A DISABLED uplink with its input asserted; one with no wait-to-restore; one set to probe. -/
def dark : State := withUplink 15 fun x => { x with losPin := true, rawLos := true }
def direct : State := withUplink 15 fun x => { x with settings := { x.settings with waitToRestore := 0 } }
def probing : State := withUplink 15 fun x => { x with settings := { x.settings with multiplier := 3 } }

theorem witness_EnablingEntersTheMachine :
    (∀ s ∈ [State.reset, dark, direct, probing], s.PortFree ∧ (15#8).toNat = (15 : Uplink).val
      ∧ (s.uplink 15).HealthSound ∧ (s.uplink 15).FilterSound ∧ (s.uplink 15).admin = .disabled
      ∧ (s.uplink 15).continuity = .inactive ∧ s.events.records.length ≤ 62)
    ∧ (0#8 = 0#8 ∧ AdminMode.active = .active ∨ 0#8 = 1#8 ∧ AdminMode.active = .drain)
    ∧ ((dark.uplink 15).settings.multiplier = 0 ∧ (dark.uplink 15).rawLos = true)
    ∧ ((direct.uplink 15).settings.multiplier = 0 ∧ (direct.uplink 15).rawLos = false
        ∧ (direct.uplink 15).settings.waitToRestore = 0)
    ∧ ((State.reset.uplink 15).rawLos = false ∧ (State.reset.uplink 15).settings.waitToRestore ≠ 0)
    ∧ (probing.uplink 15).settings.multiplier ≠ 0 := by
  refine ⟨?_, by decide⟩
  intro s hs
  simp only [List.mem_cons, List.not_mem_nil, or_false] at hs
  rcases hs with rfl | rfl | rfl | rfl <;>
    exact ⟨⟨rfl, rfl, rfl, rfl⟩, by decide, by unfold UplinkState.HealthSound; decide,
      by unfold UplinkState.FilterSound; decide, by decide, by decide, by decide⟩

theorem witness_SetAdminDisablesAndSwitches :
    let s := withUplink 15 upUplink
    s.PortFree ∧ (15#8).toNat = (15 : Uplink).val ∧ (s.uplink 15).monitored = true ∧ (s.uplink 15).ProbeSound
      ∧ (s.uplink 15).DeadlineSound s.fwd.linkUp ∧ s.events.records.length ≤ 62
      ∧ (s.uplink 15).admin ≠ .drain ∧ 0#8 = (s.uplink 15).admin.code ∧ 2 < (3#8).toNat ∧ 15 < (16#8).toNat := by
  refine ⟨free_with _ _, by decide, by decide, ?_, ?_, by decide⟩
  · unfold UplinkState.ProbeSound; decide
  · show (_ : Continuity) ≠ _; decide

theorem witness_ClearLatchKeepsLiveSources :
    State.reset.PortFree ∧ (15#8).toNat = (15 : Uplink).val ∧ 15 < (16#8).toNat := ⟨reset_free, by decide, by decide⟩

theorem witness_ProbeEmissionAdvancesTheSequence :
    let s := withUplink 7 probingUplink
    s.resetHeld = false ∧ (s.uplink 7).clock = .running 0 0 ∧ (s.uplink 0).clock = .stopped := by decide

theorem probing_sound (x : UplinkState) (h : x = probingUplink (UplinkState.reset false false)) : x.ProbeSound := by
  subst h
  unfold UplinkState.ProbeSound
  decide

theorem witness_ErroredArrivalsKeepContinuity :
    let s := linked (withUplink 7 probingUplink)
    let r := probeIn 42#8 0#8 false
    s.resetHeld = false ∧ s.fwd.linkUp = true ∧ r.classify = .valid .probeIn ∧ r.probeUplink = 7
      ∧ (s.uplink 7).probing = true ∧ (s.uplink 7).ProbeSound ∧ (s.uplink 7).continuity = .established
      ∧ ¬ (r.b4 = ~~~r.b2 ∧ r.b5 = ~~~r.b3) ∧ ((linked State.reset).uplink 7).probing = false
      ∧ s.events.records.length ≤ 61 := by
  refine ⟨rfl, rfl, by decide, by decide, by decide, probing_sound _ (by decide), by decide⟩

theorem witness_GoodArrivalsAreJudgedByTheirGap :
    let s := linked (withUplink 7 probingUplink)
    let x := s.uplink 7
    s.resetHeld = false ∧ s.fwd.linkUp = true ∧ x.probing = true ∧ x.ProbeSound ∧ x.continuity = .established
      ∧ x.lastAccepted = some 40#8 ∧ s.events.records.length ≤ 61
      ∧ (∀ seq ∈ [41#8, 167#8], let r := probeIn seq 0#8 true
          r.classify = .valid .probeIn ∧ r.probeUplink = 7 ∧ r.b4 = ~~~r.b2 ∧ r.b5 = ~~~r.b3
            ∧ 1 ≤ (r.b2 - 40#8).toNat ∧ (r.b2 - 40#8).toNat ≤ 127)
      ∧ ∀ seq ∈ [40#8, 168#8, 39#8], let r := probeIn seq 0#8 true
          r.classify = .valid .probeIn ∧ r.b4 = ~~~r.b2 ∧ r.b5 = ~~~r.b3
            ∧ ((r.b2 - 40#8).toNat = 0 ∨ 128 ≤ (r.b2 - 40#8).toNat) := by
  refine ⟨rfl, rfl, by decide, probing_sound _ (by decide), by decide⟩

theorem witness_DeadlineExpiryLosesContinuity :
    let s := linked (withUplink 7 probingUplink)
    s.resetHeld = false ∧ (s.uplink 7).deadline = .running 30000 ∧ (s.uplink 7).continuity = .established
      ∧ (s.uplink 7).HealthSound ∧ (s.uplink 7).health = .up ∧ (s.uplink 7).probing = true
      ∧ s.events.records.length ≤ 61 ∧ (s.uplink 0).deadline = .stopped := by
  unfold UplinkState.HealthSound
  decide

/-- A SET-UPLINK of defaults for U15 in conduit 7, with the multiplier given. -/
def fields (multiplier : Byte) : UplinkFields :=
  { uplink := 15#8, conduit := 7#8, lossQualify := 50#16, lightQualify := 100#16, holdOff := 0#16,
    waitToRestore := 60#16, interval := 10#8, phase := 0#8, multiplier, setThreshold := 0#8, clearThreshold := 0#8,
    policy := 0#8 }

theorem witness_SetUplinkWritesClampedSettings :
    State.reset.PortFree ∧ 15 < ({ fields 0#8 with uplink := 16#8 } : UplinkFields).uplink.toNat
      ∧ (7 < (8#8).toNat ∧ 8#8 ≠ 0xFF#8) ∧ 1 < (2#8).toNat
      ∧ (fields 0#8).uplink.toNat = (15 : Uplink).val ∧ (fields 0#8).conduit.toNat = (7 : Conduit).val
      ∧ (fields 0#8).policy = 0#8 := ⟨reset_free, by decide⟩

theorem witness_SetUplinkStartsAndEndsProbing :
    let off := withUplink 15 upUplink
    let on := withUplink 15 probingUplink
    let starting := withUplink 15 fun x => { x with admin := .active, health := .start }
    off.PortFree ∧ on.PortFree ∧ starting.PortFree ∧ (fields 3#8).uplink.toNat = (15 : Uplink).val
      ∧ (fields 3#8).conduit.toNat ≤ 7 ∧ (fields 3#8).policy.toNat ≤ 1
      ∧ ((off.uplink 15).monitored = true ∧ (off.uplink 15).settings.multiplier = 0 ∧ (off.uplink 15).health ≠ .start)
      ∧ ((on.uplink 15).monitored = true ∧ (on.uplink 15).settings.multiplier ≠ 0)
      ∧ ((starting.uplink 15).monitored = true ∧ (starting.uplink 15).settings.multiplier = 0
          ∧ (starting.uplink 15).health = .start)
      ∧ (fields 0#8).uplink.toNat = (15 : Uplink).val ∧ (fields 0#8).conduit.toNat ≤ 7 ∧ (fields 0#8).policy.toNat ≤ 1
      ∧ (fields 0#8).multiplier = 0#8 ∧ (fields 3#8).multiplier ≠ 0#8 := by
  refine ⟨free_with _ _, free_with _ _, free_with _ _, ?_⟩
  decide

/-- The clauses by the thresholds: a SET-UPLINK that leaves them, and one that writes others, on an uplink that is
degraded and on one that is not. -/
theorem witness_SetUplinkStartsAndEndsProbing_thresholds :
    let on := withUplink 15 probingUplink
    let worse := withUplink 15 fun x => { probingUplink x with window := List.replicate 3 .missed, degraded := true }
    let held (f : UplinkFields) (s : State) : Nat × Nat :=
      let y := (after (.setUplink 0#8 f) s).uplink 15
      (y.settings.setThreshold, y.settings.clearThreshold)
    on.PortFree ∧ worse.PortFree ∧ (on.uplink 15).degraded = false ∧ (worse.uplink 15).degraded = true
      ∧ (on.uplink 15).settings.setThreshold = 3 ∧ (on.uplink 15).settings.clearThreshold = 1
      ∧ (worse.uplink 15).settings.setThreshold = 3
      ∧ held { fields 3#8 with setThreshold := 3#8, clearThreshold := 1#8 } on = (3, 1)
      ∧ held { fields 3#8 with setThreshold := 32#8, clearThreshold := 31#8 } on = (32, 31)
      ∧ held (fields 3#8) worse = (0, 0) := by
  refine ⟨free_with _ _, free_with _ _, ?_⟩
  decide +kernel

/-- R53, R60: the events of a step, with an UP uplink of a conduit with trip count 1 lost to a loss of continuity: the
health event, then CONDUIT-TRIP with the trip count, the DOWN count and the members shunned (none but U7 is one). -/
theorem test_conduit_trip_follows :
    (after (.continuityDeadlineExpiry 7) ((linked (withUplink 7 fun x =>
        let y := probingUplink x
        { y with settings := { y.settings with conduit := some 2 } })).setConduit 2
          { tripCount := 1, tripped := false })).events.records.map (·.event)
      = [.uplinkDown 7 { los := false, cont := true, rdi := false, sd := false },
          .conduitTrip 2 1 1 (Vector.replicate 16 false)] := by decide +kernel

theorem witness_SetConduitEvaluatesTheConduit :
    State.reset.PortFree ∧ (7#8).toNat = (7 : Conduit).val ∧ 7 < (8#8).toNat
      ∧ State.reset.events.records.length ≤ 63 := ⟨reset_free, by decide⟩

theorem witness_Identify_GetStatus : State.reset.PortFree := reset_free

/-- GET-STATUS at the head of the queue, the last reply being sent, and one command behind it. -/
theorem witness_GetStatusReportsAndClearsErrorCounts :
    let q (c : Command) : TaggedCommand := { tag := 4#8, command := c }
    let s := { State.reset with control := { State.reset.control with
      replies := [{ type := 0x01#8, tag := 1#8, body := .busy }], queue := [q .getStatus, q .identify] } }
    s.resetHeld = false ∧ s.control.inHand = none ∧ (∃ r, s.control.replies = [r])
      ∧ s.control.queue = { tag := 4#8, command := .getStatus } :: [q .identify] :=
  ⟨rfl, rfl, ⟨_, rfl⟩, rfl⟩

theorem witness_GetUplinkReportsOneReading :
    State.reset.PortFree ∧ (15#8).toNat = (15 : Uplink).val ∧ 15 < (16#8).toNat := ⟨reset_free, by decide⟩

/-! ### A part in service: U0 UP, G5 planned over it and settled on it, the link UP, one request waiting on L0 -/

/-- G5's plan: U0 alone. -/
def plan5 : Plan := planOf [1] .revertive

/-- The part in service. -/
def live : State :=
  { linked (withUplink 0 upUplink) with
    plans := { PlanStore.reset with bankA := [(5, plan5)] },
    buckets := [(5, { GroupBuckets.reset with arrayA := homeArray plan5 })],
    lookup := { LookupState.reset with lanes := LookupState.reset.lanes.set 0 { LaneState.reset with
      queue := [{ lane := 0, tag := 1#16, group := 5#12, hash := 41234#16 }] } },
    pending := [.serviceBegin] }

theorem live_uplink (u : Uplink) :
    live.uplink u = if 0 = u then upUplink (UplinkState.reset false false) else UplinkState.reset false false :=
  uplink_with 0 u upUplink

theorem live_group (g : Group) :
    live.group g = if 5 = g then { GroupBuckets.reset with arrayA := homeArray plan5 } else GroupBuckets.reset := by
  show GroupMap.get _ [(5, _)] g = _
  unfold GroupMap.get
  rw [GroupMap.find_cons]
  split <;> rfl

theorem live_planIn (b : Bank) (g : Group) : live.planIn b g = if b = .A ∧ 5 = g then plan5 else Plan.default := by
  cases b
  · show GroupMap.get _ [(5, plan5)] g = _
    unfold GroupMap.get
    rw [GroupMap.find_cons]
    by_cases h : (5 : Group) = g <;> simp [h]
  · rfl

theorem live_selector (g : Group) : (live.group g).selector = .A := by
  rw [live_group]; split <;> rfl

theorem live_servedPlan (g : Group) : live.servedPlan g = if 5 = g then plan5 else Plan.default := by
  unfold State.servedPlan
  rw [live_selector, live_planIn]
  simp

theorem live_servedArray (g : Group) :
    live.servedArray g = if 5 = g then homeArray plan5 else BucketArray.cleared := by
  unfold State.servedArray
  rw [live_selector, live_group]
  split <;> rfl

theorem plan5_home (b : BucketNo) : (homeArray plan5).get b = { home := some 0, current := some 0 } := by
  revert b; decide +kernel

theorem plan5_runs (b : BucketNo) : (homeRuns plan5)[b.val]? = some 0 := by revert b; decide +kernel

theorem live_settings (u : Uplink) : (live.uplink u).settings = Settings.reset := by
  rw [live_uplink]; split <;> rfl

theorem live_uplinks_sound : UplinksSound live := by
  intro u
  rw [live_uplink]
  split
  all_goals
    refine ⟨?_, ?_, ?_, ?_, ?_⟩
    · unfold Settings.InRange; decide
    · unfold UplinkState.FilterSound; decide
    · unfold UplinkState.HealthSound; decide
    · show (_ : Continuity) ≠ _; decide
    · unfold UplinkState.ProbeSound; decide

theorem live_monitor_sound : MonitorSound live := by
  refine ⟨live_uplinks_sound, fun _ u => ?_, nofun⟩
  rw [live_uplink]; split <;> rfl

/-- R54: U0's usable flag changed: G5, planned over U0, is due a mark; G4, unplanned, is not. -/
theorem witness_marks_due :
    let t := live.setUplink 0 (UplinkState.reset false false)
    GroupMap.find live.sweep.dirty 5 = none ∧ live.sweep.episode = none ∧ live.MarkDue t 5 ∧ ¬ live.MarkDue t 4 := by
  have h0 : (live.servedPlan 5).members = [{ uplink := 0, weight := 1 }] := by rw [live_servedPlan]; decide
  have h1 : (live.servedPlan 4).members = [] := by rw [live_servedPlan]; decide
  refine ⟨rfl, rfl, ⟨0, ?_, Or.inl ⟨_, by rw [h0]; exact List.mem_singleton_self _, rfl⟩⟩, ?_⟩
  · rw [State.uplink_setUplink, live_uplink]; decide
  · rintro ⟨u, -, ⟨m, hm, -⟩ | ⟨p, b, hp, -⟩⟩
    · rw [h1] at hm; exact absurd hm nofun
    · exact absurd hp nofun

theorem live_downCount (c : Conduit) : live.downCount c = 0 := by revert c; decide +kernel

theorem live_conduit (c : Conduit) : live.conduit c = ConduitState.reset := vector_get_replicate _ _

theorem live_conduits_sound : ConduitsSound live := by
  refine ⟨⟨fun c => ?_, fun u => ?_, fun u => ?_⟩, fun c => ?_⟩
  · rw [live_conduit, live_downCount]; decide
  · rw [live_uplink]; split <;> simp [upUplink, UplinkState.reset, Settings.reset]
  · rw [live_uplink]; split <;> simp [upUplink, UplinkState.reset]
  · rw [live_conduit]; decide

theorem live_forwarding_sound : ForwardingSound live := by
  refine ⟨fun l => ?_, ?_⟩
  · unfold LaneState.Sound; revert l; decide +kernel
  · refine ⟨by decide, by decide, by decide, by decide, by decide, by decide, by decide, nofun⟩

theorem live_events_sound : EventsSound live := by
  refine ⟨by decide, by decide, by decide, by decide, by decide, nofun, by decide, ?_, Or.inl rfl⟩
  simp [live, linked, withUplink, State.setUplink, State.reset, EventQueue.reset]

theorem live_plans_sound : PlansWellFormed live := by
  intro b g
  rw [live_planIn]
  split
  · rename_i h
    refine ⟨by decide, by decide, by decide, nofun⟩
  · refine ⟨by decide, by decide, by decide, nofun⟩

theorem live_banks_sound : BanksSound live := by
  refine ⟨?_, live_plans_sound, ?_, ?_⟩
  · refine ⟨⟨by decide, ?_⟩, ⟨by decide, nofun⟩, ⟨by decide, ?_⟩, by decide⟩
    · decide +kernel
    · decide +kernel
  · refine ⟨by decide, ?_, nofun, ?_⟩
    · rintro g ⟨⟨f, hf, -⟩, -⟩; exact absurd hf nofun
    · intro g
      refine ⟨live_selector g, ?_, rfl⟩
      rintro ⟨f, hf, -⟩; exact absurd hf nofun
  · exact ⟨by decide, nofun⟩

theorem live_arrays_sound : ArraysSound live := by
  intro g
  rw [live_servedPlan, live_servedArray]
  by_cases h : (5 : Group) = g
  · rw [if_pos h, if_pos h, if_pos (by decide)]
    intro b
    exact ⟨0, 0, plan5_home b, plan5_runs b, by unfold Plan.Populated; decide, by unfold Plan.Populated; decide⟩
  · rw [if_neg h, if_neg h, if_neg (by decide), live_group, if_neg h]
    exact ⟨rfl, rfl⟩

theorem live_sweep_sound : SweepSound live := by
  refine ⟨live_banks_sound, live_arrays_sound, ?_, nofun⟩
  intro g hp _
  rw [live_servedPlan] at hp ⊢
  by_cases h : (5 : Group) = g
  · left
    rw [if_pos h, live_servedArray, if_pos h, live_group, if_pos h]
    refine ⟨⟨{ uplink := 0, weight := 1 }, by decide, by decide⟩, rfl, fun b => ?_⟩
    rw [plan5_home]
    exact ⟨0, { uplink := 0, weight := 1 }, rfl, by decide, by decide⟩
  · rw [if_neg h] at hp; exact absurd hp (by decide)

theorem live_control_sound : ControlSound live :=
  ⟨rfl, by decide, by decide, trivial, fun _ => rfl⟩

/-- The part in service takes its step. -/
theorem live_steps : step live = .next (after .serviceBegin { live with pending := [] }) := rfl

theorem witness_StepsKeepUplinksSound : MonitorSound live ∧ ∃ t, step live = .next t :=
  ⟨live_monitor_sound, _, live_steps⟩
theorem witness_StepsKeepUsabilityExact : ConduitsSound live ∧ ∃ t, step live = .next t :=
  ⟨live_conduits_sound, _, live_steps⟩
theorem witness_StepsKeepLanesAndLinkSound : ForwardingSound live ∧ ∃ t, step live = .next t :=
  ⟨live_forwarding_sound, _, live_steps⟩
theorem witness_StepsKeepEventsSound : EventsSound live ∧ ∃ t, step live = .next t :=
  ⟨live_events_sound, _, live_steps⟩
theorem witness_StepsKeepBanksSound : BanksSound live ∧ ∃ t, step live = .next t := ⟨live_banks_sound, _, live_steps⟩
theorem witness_StepsKeepArraysSound : BanksSound live ∧ ArraysSound live ∧ ∃ t, step live = .next t :=
  ⟨live_banks_sound, live_arrays_sound, _, live_steps⟩
theorem witness_StepsKeepGroupsSettled : SweepSound live ∧ ∃ t, step live = .next t :=
  ⟨live_sweep_sound, _, live_steps⟩
theorem witness_StepsKeepControlSound : ControlSound live ∧ ∃ t, step live = .next t :=
  ⟨live_control_sound, _, live_steps⟩

theorem witness_ProtectionMachineFollowsItsTable :
    live.resetHeld = false ∧ UplinksSound live ∧ live.PortFree ∧ judgeUplink (fields 3#8).uplink = some 15
      ∧ (probeIn 41#8 0#8 true).probeUplink = 7 ∧ live.events.records.length ≤ 60 ∧ live.fwd.linkUp = true
      ∧ (probeIn 41#8 0#8 true).classify = .valid .probeIn :=
  ⟨rfl, live_uplinks_sound, ⟨rfl, rfl, rfl, rfl⟩, by decide, by decide, by decide, rfl, by decide⟩

/-! ### Plans, passes and groups -/

/-- A sound WRITE-PLAN for G1023 naming U15 with weight 15. -/
def planFields : PlanFields :=
  { group := 1023#16, fold := 1#8, revert := 1#8, fallback := 0xFFFF#16, emptyAction := 1#8, members := [(15#8, 15#8)] }

theorem witness_BankWritesWriteTheShadow :
    live.PortFree ∧ live.plans.swapInFlight = false ∧ planFields.group.toNat = (1023 : Group).val
      ∧ planFields.members.length ≤ 8
      ∧ (∀ m ∈ planFields.members, m.1.toNat ≤ 15 ∧ 1 ≤ m.2.toNat ∧ m.2.toNat ≤ 15)
      ∧ (planFields.members.map (·.1)).Nodup
      ∧ (planFields.fold.toNat ≤ 1 ∧ planFields.revert.toNat ≤ 1 ∧ planFields.emptyAction.toNat ≤ 1)
      ∧ planFields.fallback = 0xFFFF#16
      ∧ ((0#16).toNat < 1024 ∧ 0#16 ≠ planFields.group) ∧ 1023 < (1024#16).toNat :=
  ⟨⟨rfl, rfl, rfl, rfl⟩, rfl, by decide, by decide, by simp [planFields], by decide⟩

/-- Each branch of R68's order is met: the records that fail one check and pass those before it. -/
theorem witness_WritePlanChecksInOrder :
    live.PortFree ∧ live.plans.swapInFlight = false ∧ 1023 < (1024#16).toNat
      ∧ 8 < (List.replicate 9 (0#8, 1#8)).length
      ∧ ¬ (∀ m ∈ [(16#8, 1#8)], m.1.toNat ≤ 15)
      ∧ ¬ (∀ m ∈ [(15#8, 16#8)], 1 ≤ m.2.toNat ∧ m.2.toNat ≤ 15)
      ∧ ¬ (∀ m ∈ [(15#8, 0#8)], 1 ≤ m.2.toNat ∧ m.2.toNat ≤ 15)
      ∧ ¬ ([(15#8, 15#8), (15#8, 1#8)].map (·.1)).Nodup
      ∧ ¬ (2#8).toNat ≤ 1
      ∧ (planFields.group ≠ 0xFFFF#16 ∧ planFields.group = planFields.group)
      ∧ (1024#16 ≠ 0xFFFF#16 ∧ 1023 < (1024#16).toNat) :=
  ⟨⟨rfl, rfl, rfl, rfl⟩, rfl, by decide, by decide, by simp, by simp, by simp, by decide⟩

/-- The part in service during a swap. -/
def swapping : State := { live with plans := { live.plans with swapInFlight := true } }

theorem witness_SwapHoldsOffBankWrites : swapping.PortFree ∧ swapping.plans.swapInFlight = true :=
  ⟨⟨rfl, rfl, rfl, rfl⟩, rfl⟩

/-- The part in service with G5 marked, an episode open. -/
def marked : State :=
  { live with sweep := { live.sweep with
      dirty := [(5, { replan := false, rebalance := false })],
      episode := some { startSeconds := 0#32, startMicros := 0, passes := 4095 } } }

/-- The part in service with G5 under a pass, an episode open, and a READ-GROUP for G5 in hand. -/
def passing : State :=
  { live with
    sweep := { live.sweep with
      pass := some { group := 5, flags := { replan := false, rebalance := false },
                     snapshot := Vector.replicate 16 false },
      episode := some { startSeconds := 0#32, startMicros := 0, passes := 0 } },
    control := { live.control with inHand := some { tag := 1#8, command := .readGroup 5#16 } } }

theorem witness_SwapMarksEveryGroup :
    live.PortFree ∧ live.plans.swapInFlight = false ∧ live.sweep.episode = none
      ∧ (∃ g, GroupMap.find live.sweep.dirty g = none)
      ∧ marked.PortFree ∧ marked.plans.swapInFlight = false ∧ ∃ e, marked.sweep.episode = some e :=
  ⟨⟨rfl, rfl, rfl, rfl⟩, rfl, rfl, ⟨0, rfl⟩, ⟨rfl, rfl, rfl, rfl⟩, rfl, _, rfl⟩

theorem witness_PlanAndGroupReadings :
    live.PortFree ∧ (1023#16).toNat = (1023 : Group).val
      ∧ (0#8 = 0#8 ∧ Bank.A = .A) ∧ (1#8 = 1#8 ∧ Bank.B = .B) ∧ (2#8 = 2#8 ∧ Bank.A = live.plans.active)
      ∧ (3#8 = 3#8 ∧ Bank.B ≠ live.plans.active)
      ∧ 1023 < (1024#16).toNat ∧ 3 < (4#8).toNat ∧ (∀ p ∈ live.sweep.pass, p.group ≠ 1023)
      ∧ ∃ (s : State) (p : PassRecord), s.PortFree ∧ s.sweep.pass = some p ∧ (5#16).toNat = p.group.val :=
  ⟨⟨rfl, rfl, rfl, rfl⟩, by decide, ⟨rfl, rfl⟩, ⟨rfl, rfl⟩, ⟨rfl, rfl⟩, ⟨rfl, nofun⟩, by decide, by decide, nofun,
    { passing with control := live.control }, _, ⟨rfl, rfl, rfl, rfl⟩, rfl, rfl⟩

theorem witness_RebalanceMarksItsGroups :
    live.PortFree ∧ (1023#15).toNat = (1023 : Group).val ∧ 1023 < (1024#15).toNat
      ∧ (live.servedPlan 5).members ≠ [] ∧ (live.servedPlan 4).members = []
      ∧ live.sweep.episode = none ∧ GroupMap.find live.sweep.dirty 5 = none
      ∧ marked.PortFree ∧ ∃ e, marked.sweep.episode = some e :=
  ⟨⟨rfl, rfl, rfl, rfl⟩, by decide, by decide, by rw [live_servedPlan]; decide, by rw [live_servedPlan]; decide,
    rfl, rfl, ⟨rfl, rfl, rfl, rfl⟩, _, rfl⟩

theorem find_marked (g : Group) (h : ∃ f, GroupMap.find marked.sweep.dirty g = some f) : g = 5 := by
  obtain ⟨f, hf⟩ := h
  change GroupMap.find [(5, _)] g = some f at hf
  rw [GroupMap.find_cons] at hf
  by_contra hg
  rw [if_neg (fun h => hg h.symm)] at hf
  exact absurd hf nofun

theorem witness_PassBeginsAtTheCursor :
    let wrapped := { marked with sweep := { marked.sweep with cursor := 1023 } }
    (marked.resetHeld = false ∧ GroupMap.sorted marked.sweep.dirty ∧ marked.sweep.pass = none
      ∧ GroupMap.find marked.sweep.dirty 5 = some { replan := false, rebalance := false }
      ∧ marked.sweep.cursor ≤ 5
      ∧ ∀ k, (∃ f, GroupMap.find marked.sweep.dirty k = some f) → marked.sweep.cursor ≤ k → 5 ≤ k)
    ∧ (∀ k, (∃ f, GroupMap.find wrapped.sweep.dirty k = some f) → k < wrapped.sweep.cursor ∧ (5 : Group) ≤ k)
    ∧ live.sweep.dirty = [] ∧ GroupMap.sorted live.sweep.dirty ∧ passing.sweep.pass ≠ none := by
  refine ⟨⟨rfl, by decide, rfl, rfl, by decide, ?_⟩, ?_, rfl, by decide, nofun⟩
  · intro k hk _; rw [find_marked k hk]
  · intro k hk; rw [find_marked k hk]; exact ⟨by decide, by decide⟩

/-- The clauses with an entry for every group and no episode, where no episode opens. -/
theorem witness_no_new_entry :
    let full := { live with sweep := { live.sweep with
      dirty := GroupMap.build fun _ => some { replan := false, rebalance := false } } }
    full.PortFree ∧ full.plans.swapInFlight = false ∧ full.sweep.episode = none
      ∧ ∀ g, GroupMap.find full.sweep.dirty g ≠ none :=
  ⟨⟨rfl, rfl, rfl, rfl⟩, rfl, rfl, fun g => by simp only [GroupMap.find_build]; nofun⟩

/-- A state with a group under a pass. -/
def under (g : Group) (replan : Bool) (s : State) : State :=
  { s with sweep := { s.sweep with
      pass := some { group := g, flags := { replan, rebalance := false }, snapshot := Vector.replicate 16 false } } }

theorem passing_plans : PlansWellFormed passing := live_plans_sound

/-- The hypotheses of the completion's statements; the replan clauses by the flags of the pass record, planned or not in
the other bank. -/
theorem witness_PassCompletionWritesTheGroup :
    (∃ p, passing.resetHeld = false ∧ passing.sweep.pass = some p ∧ PlansWellFormed passing
      ∧ p.flags.replan = false ∧ (passing.planIn (passing.group p.group).selector p.group).members ≠ [])
    ∧ (∃ (s : State) (p : PassRecord), s.resetHeld = false ∧ s.sweep.pass = some p ∧ PlansWellFormed s
      ∧ p.flags.replan = false ∧ (s.planIn (s.group p.group).selector p.group).members = [])
    ∧ (∃ (s : State) (p : PassRecord), s.resetHeld = false ∧ s.sweep.pass = some p ∧ PlansWellFormed s
      ∧ p.flags.replan = true ∧ (s.planIn .B p.group).members = [])
    ∧ ∃ (s : State) (p : PassRecord), s.resetHeld = false ∧ s.sweep.pass = some p ∧ PlansWellFormed s
      ∧ p.flags.replan = true ∧ (s.planIn .A p.group).members ≠ [] := by
  have hb : PlansWellFormed live := live_plans_sound
  exact ⟨⟨_, rfl, rfl, hb, rfl, by decide +kernel⟩,
    ⟨under 4 false live, _, rfl, rfl, hb, rfl, by decide +kernel⟩,
    ⟨under 5 true swapping, _, rfl, rfl, hb, rfl, by decide +kernel⟩,
    ⟨under 5 true swapping, _, rfl, rfl, hb, rfl, by decide +kernel⟩⟩

theorem witness_PassCompletionReports :
    passing.resetHeld = false ∧ (∃ p, passing.sweep.pass = some p ∧ p.group = 5) ∧ PlansWellFormed passing
      ∧ passing.events.records.length ≤ 61
      ∧ passing.control.inHand = some { tag := 1#8, command := .readGroup 5#16 } ∧ (5#16).toNat = (5 : Group).val
      ∧ live.resetHeld = false ∧ live.sweep.pass = none :=
  ⟨rfl, ⟨_, rfl, rfl⟩, passing_plans, by decide, rfl, rfl, rfl, rfl⟩

theorem witness_SharesAndHomeRuns :
    (∃ S : List (Slot × Nat), S ≠ [] ∧ S.Pairwise (fun x y => x.1 < y.1) ∧ ∀ e ∈ S, 1 ≤ e.2 ∧ e.2 ≤ 15)
      ∧ plan5.WellFormed 5 ∧ plan5.members ≠ [] :=
  ⟨⟨[(0, 15), (7, 1)], by decide⟩, ⟨by decide, by decide, by decide, nofun⟩, by decide⟩

theorem witness_PassMovesOnlyOrphans :
    plan5.WellFormed 5 ∧ plan5.members ≠ []
      ∧ (∀ b, (homeArray plan5).get b = { home := some 0, current := some 0 })
      ∧ (0 : Slot).val < plan5.members.length ∧ plan5.revert = .revertive :=
  ⟨⟨by decide, by decide, by decide, nofun⟩, by decide, plan5_home, by decide, rfl⟩

/-- Both kinds of bucket of that statement: one that stays, and one orphan dealt among the usable (section 5.6.1). -/
theorem witness_PassMovesOnlyOrphans_orphan :
    let p := planOf [3, 2, 2, 1] .revertive
    p.WellFormed 0 ∧ (homeArray p).get 0 = { home := some 0, current := some 0 }
      ∧ (homeArray p).get 63 = { home := some 3, current := some 3 } := by
  refine ⟨⟨by decide, by decide, by decide, nofun⟩, ?_⟩
  decide +kernel

theorem witness_StandInIsTheNextUsableSlot :
    (planOf [1, 1, 1, 1, 1, 1, 1, 1] .revertive).members.length ≤ 8
      ∧ (7 : Slot).val < (planOf [1, 1, 1, 1, 1, 1, 1, 1] .revertive).members.length := by decide

/-! ### Lookups and the forwarding port -/

theorem witness_LookupArrivalsAreQueuedOrRefused :
    let full := { LaneState.reset with queue := List.replicate 16 { lane := 0, tag := 0#16, group := 0#12, hash := 0#16 } }
    live.resetHeld = false ∧ live.fwd.linkUp = true ∧ lookupReq.classify = .valid .lookupReq
      ∧ (0 : Lane).val = (lookupReq.b1.extractLsb' 6 2).toNat
      ∧ ((live.lane 0).enabled = true ∧ (live.lane 0).queue.length < 16)
      ∧ (full.enabled = true ∧ 16 ≤ full.queue.length ∧ full.overrun = false)
      ∧ ((live.setLane 0 { LaneState.reset with enabled := false }).lane 0).enabled = false
      ∧ live.events.records.length ≤ 63 ∧ live.fwd.refusals.length < 2
      ∧ ∃ head second, ({ live.fwd with refusals := [refusalAnswer 0 8#16 .refused, refusalAnswer 3 9#16 .overrun] }
          : FwdState).refusals = [head, second] := by
  refine ⟨rfl, rfl, by decide, by decide, by decide, by decide, by decide, by decide, by decide, _, _, rfl⟩

theorem witness_ServiceTakesTheNextLane :
    live.resetHeld = false ∧ live.lookup.serving = none ∧ (1 ≤ 1 ∧ 1 ≤ 4)
      ∧ (0 : Lane).val = (live.lookup.lastServed.val + 1) % 4
      ∧ (live.lane 0).queue = [{ lane := 0, tag := 1#16, group := 5#12, hash := 41234#16 }]
      ∧ (∀ (k : Lane) (i : Nat), 1 ≤ i → i < 1 → k.val = (live.lookup.lastServed.val + i) % 4 →
          (live.lane k).queue = [])
      ∧ ∀ l, (State.reset.lane l).queue = [] := by
  refine ⟨rfl, rfl, by decide, by decide, by decide, ?_, by decide⟩
  intro k i h1 h2; omega

theorem witness_LookupsFollowTheDecisionChain :
    PlansWellFormed live ∧ ArraysSound live ∧ 1024 ≤ (1024#12).toNat ∧ (1023#12).toNat = (1023 : Group).val
      ∧ (live.servedPlan 1023).members = [] ∧ (live.servedPlan 5).members ≠ [] :=
  ⟨live_plans_sound, live_arrays_sound, by decide, by decide, by rw [live_servedPlan]; decide,
    by rw [live_servedPlan]; decide⟩

theorem witness_SetLaneEvaluatesTheMarks :
    live.PortFree ∧ 3 < (4#8).toNat ∧ (3#8).toNat = (3 : Lane).val ∧ 1 < (2#8).toNat ∧ (1#8).toNat ≤ 1
      ∧ (live.lane 3).paused = false ∧ (live.lane 3).queue.length < max 2 (min 16 (0#8).toNat) :=
  ⟨⟨rfl, rfl, rfl, rfl⟩, by decide⟩

theorem witness_ValidRecordsKeepTheLinkUp :
    (live.resetHeld = false ∧ sync.classify = .valid .sync ∧ live.fwd.linkUp = true)
      ∧ (State.reset.resetHeld = false ∧ State.reset.fwd.linkUp = false ∧ lookupReq.classify = .valid .lookupReq
          ∧ (probeIn 0#8 0#8 true).classify = .valid .probeIn)
      ∧ ({ sync with b7 := 0#8 } : Record).classify = .faulty .badSum
      ∧ (Record.sealed 0x31#8 0#8 0#8 0#8 0#8 0#8 0#8).classify = .faulty .outwardOnly
      ∧ (Record.sealed 0x00#8 0#8 0#8 0#8 0#8 0#8 0#8).classify = .faulty .unknownKind := by decide

theorem witness_SilenceExpiryTakesTheLinkDown :
    live.resetHeld = false ∧ live.fwd.silenceTimer = some { expiry := 10000, given := 10 }
      ∧ State.reset.fwd.silenceTimer = none ∧ live.events.records.length ≤ 63 := by decide

theorem witness_RecordTimesFollowThePriority :
    live.resetHeld = false ∧ live.fwd.linkUp = true ∧ live.fwd.refusals = [] ∧ live.fwd.signals = []
      ∧ live.fwd.probes = [] ∧ live.lookup.serving = none ∧ State.reset.fwd.linkUp = false := by decide

/-- The clauses with a record waiting: a refusal, a signal, a probe, and a held answer. -/
theorem witness_RecordTimesFollowThePriority_lists :
    let a := refusalAnswer 0 1#16 .overrun
    let f := live.fwd
    (∃ x rest, ({ f with refusals := [a] } : FwdState).refusals = x :: rest)
      ∧ (∃ x rest, ({ f with signals := [{ lane := 0, pause := true }] } : FwdState).signals = x :: rest)
      ∧ (∃ x rest, ({ f with probes := [{ uplink := 7, seq := 41#8, rdi := false }] } : FwdState).probes = x :: rest)
      ∧ ∃ x, ({ live.lookup with serving := some a } : LookupState).serving = some x :=
  ⟨⟨_, _, rfl⟩, ⟨_, _, rfl⟩, ⟨_, _, rfl⟩, _, rfl⟩

/-- The clauses of SET-LANE by the paused flag and the count: a lane paused at 12 requests, with marks written that
resume it or keep it paused, and one not paused whose count reaches the pause mark written. -/
theorem witness_SetLaneEvaluatesTheMarks_paused :
    let q : Request := { lane := 0, tag := 0#16, group := 0#12, hash := 0#16 }
    let x := { LaneState.reset with queue := List.replicate 12 q, paused := true }
    let y := { LaneState.reset with queue := List.replicate 11 q }
    ∃ s r : State, s.PortFree ∧ s.lane 3 = x ∧ r.PortFree ∧ r.lane 3 = y
      ∧ (x.paused = true ∧ x.queue.length ≤ min (13 - 1) (12#8).toNat)
      ∧ (x.paused = true ∧ min (13 - 1) (11#8).toNat < x.queue.length)
      ∧ (y.paused = false ∧ max 2 (min 16 (11#8).toNat) ≤ y.queue.length) :=
  ⟨live.setLane 3 _, live.setLane 3 _, ⟨rfl, rfl, rfl, rfl⟩, State.lane_setLane_self _ _ _, ⟨rfl, rfl, rfl, rfl⟩,
    State.lane_setLane_self _ _ _, by decide⟩

/-! ### Events, settings and the control port -/

theorem witness_FullQueueKeepsUrgentRecords :
    let r : EventRecord := { event := .swapDone .A, seconds := 0#32, micros := 0, enqueuedAt := 0 }
    let u : EventRecord := { r with event := .fwdLinkDown 10 0 }
    let e (linger now : Nat) : LingerTimer := (({ EventQueue.reset with linger } : EventQueue).enqueue r now).lingerTimer
    (e 0 5 = .stopped ∧ e 20 20000 = .expired ∧ e 20 19999 = .running 20000)
      ∧ ([r].length < 64 ∧ [r] ≠ [] ∧ 64 ≤ (List.replicate 64 r).length ∧ r.event.severity = .routine ∧ u.event.severity = .urgent)
      ∧ (∀ x ∈ List.replicate 64 u, x.event.severity = .urgent)
      ∧ (r :: List.replicate 63 u = [] ++ r :: List.replicate 63 u
          ∧ ∀ y ∈ List.replicate 63 u, y.event.severity = .urgent) := by decide +kernel

theorem witness_FetchEventsTakesTheOldest : live.PortFree ∧ EventsSound live :=
  ⟨⟨rfl, rfl, rfl, rfl⟩, live_events_sound⟩

theorem witness_SetTimeAndSetFwdlinkMoveNoTimer : live.PortFree := ⟨rfl, rfl, rfl, rfl⟩

/-- A part with one record queued, linger 20 ms running. -/
def lingering : State :=
  { State.reset with events := { EventQueue.reset with
      records := [{ event := .fwdLinkUp .sync, seconds := 0#32, micros := 0, enqueuedAt := 0 }], trigger := 8,
      linger := 20, urgentImmediate := false, lingerTimer := .running 20000 } }

theorem witness_AlertSettingsAndLingerDriveTheLine :
    (live.PortFree ∧ 1 < (2#8).toNat ∧ (1#8).toNat ≤ 1)
      ∧ (lingering.resetHeld = false ∧ lingering.events.lingerTimer = .running 20000 ∧ EventsSound lingering)
      ∧ ∀ e, live.events.lingerTimer ≠ .running e := by
  refine ⟨⟨⟨rfl, rfl, rfl, rfl⟩, by decide⟩, ⟨rfl, rfl, ?_⟩, nofun⟩
  refine ⟨by decide, by decide, by decide, by decide, by decide, ?_, by decide, ?_, ?_⟩
  · decide
  · simp [lingering, EventQueue.reset]
  · exact ⟨by decide, rfl⟩

theorem witness_CommandsSurviveTheWire :
    (Command.writePlan planFields).wf = true ∧ State.reset.resetHeld = false ∧ State.reset.control.rx = .hunting
      ∧ State.reset.control.frame = []
      ∧ parseCommand 0x25#8 [0x00#8, 0x05#8] = .command (.readGroup 5#16) ∧ [0x00#8, 0x05#8].length ≤ 512 := by
  decide

theorem witness_ReceiverTakesBytesByItsTable :
    let at_ (rx : RxState) (frame : List Byte) : ControlState := { State.reset.control with rx, frame }
    State.reset.resetHeld = false ∧ (at_ .hunting []).ReceiverSound ∧ (at_ .length []).ReceiverSound
      ∧ (at_ .length [0x02#8]).ReceiverSound ∧ (at_ .body [0x00#8, 0x02#8]).ReceiverSound
      ∧ (at_ .body [0x00#8, 0x02#8, 0x02#8]).ReceiverSound
      ∧ (at_ .check [0x00#8, 0x02#8, 0x02#8, 0x07#8]).ReceiverSound
      ∧ (at_ .check [0x00#8, 0x02#8, 0x02#8, 0x07#8, 0xFF#8]).ReceiverSound := by
  refine ⟨rfl, rfl, ?_, ?_, ?_, ?_, ?_, ?_⟩
  · show (_ : Nat) < _; decide
  · show (_ : Nat) < _; decide
  all_goals exact ⟨by decide, by decide, by decide, by decide⟩

theorem witness_CommandsWaitTheirTurn :
    let q : TaggedCommand := { tag := 0#8, command := .identify }
    let r : Reply := { type := 0x01#8, tag := 0#8, body := .busy }
    let full := { State.reset.control with queue := List.replicate 8 q }
    let busy := { State.reset.control with inHand := some q }
    let sending := { State.reset.control with replies := [r], queue := [q] }
    State.reset.PortFree ∧ 8 ≤ full.queue.length ∧ (busy.queue.length < 8 ∧ busy.inHand ≠ none)
      ∧ (sending.replies = r :: [] ∧ sending.inHand = none ∧ sending.queue = q :: [])
      ∧ (∀ tag, sending.inHand ≠ some { tag, command := .reset }) ∧ State.reset.control.replies = [] :=
  ⟨reset_free, by decide, by decide, ⟨rfl, rfl, rfl⟩, nofun, rfl⟩

end Sys2Proof.Tests
end

section
/-! SUPPORT. What a change of one uplink leads to, in the form the uplink statements use: every such change as one
handing over, the protection machine as the table of section 1.5.1, and the step read from the state before elapsed time
moved. -/

namespace Sys2Proof.Machine

/-! ### Writing one uplink -/

/-- The later of two writes of one uplink stands. -/
@[simp] theorem State.setUplink_setUplink (s : State) (u : Uplink) (x y : UplinkState) :
    (s.setUplink u x).setUplink u y = s.setUplink u y := by
  have h : ((s.setUplink u x).setUplink u y).uplinks = (s.setUplink u y).uplinks :=
    State.uplinks_ext fun v => by
      simp only [State.uplink_setUplink]
      split <;> rfl
  unfold State.setUplink at *
  simp only at h
  simp only [h]

/-- R47: a degraded flag that stays is not reported. -/
theorem degradeEvents_same {u : Uplink} {old x : UplinkState} (h : x.degraded = old.degraded) :
    degradeEvents u old x = [] := by
  unfold degradeEvents
  rw [h]
  cases old.degraded <;> rfl

/-- A change that leaves the degraded flag is a handing over without a DEGRADE event (R48). -/
theorem State.settleUplink_eq_handOver {s : State} {u : Uplink} {x : UplinkState}
    (h : x.degraded = (s.uplink u).degraded) : (s.setUplink u x).settleUplink u s = s.handOver u x := by
  unfold State.handOver
  rw [degradeEvents_same h, State.raiseAll_nil]

/-- R13, R22: the state a handing over gives its uplink, but for the shunned and usable flags. -/
theorem State.handOver_becomes (u : Uplink) (x : UplinkState) (s : State) :
    s.UplinkBecomes (s.handOver u x) u
      (((s.uplink u).latch x).protect u s.clock.now (s.uplink u).defects).1 := by
  obtain ⟨s1, hs1⟩ : ∃ s1, s1 = (s.setUplink u x).raiseAll (degradeEvents u (s.uplink u) x) := ⟨_, rfl⟩
  have hx : s1.uplink u = x := by simp [hs1]
  have hk : s1.clock = s.clock := by simp [hs1]
  have e : s.handOver u x = s1.settleUplink u s := by rw [hs1]; rfl
  rw [e, State.settleUplink, hx, hk]
  obtain ⟨hu, hv⟩ := State.evaluateUsability_becomes
    (touchedConduits (s.uplink u) (((s.uplink u).latch x).protect u s.clock.now (s.uplink u).defects).1)
    (((s.uplink u).latch x).protect u s.clock.now (s.uplink u).defects).2 s1 s u
    (((s.uplink u).latch x).protect u s.clock.now (s.uplink u).defects).1
  refine ⟨hu, fun v hne => ?_⟩
  have h := hv v hne
  rwa [show s1.uplink v = s.uplink v by simp [hs1, State.uplink_setUplink, Ne.symm hne]] at h

/-- What a change of health by a rule of its own does (R16, R18, R19, and SET-ADMIN's R9 to R11). -/
theorem State.settleHealth_spec (u : Uplink) (y : UplinkState × List Event) (s : State) :
    s.SameBeyondUplinks (s.settleHealth u y s) ∧ (s.settleHealth u y s).fwd = s.fwd
      ∧ (s.settleHealth u y s).control = s.control ∧ (s.settleHealth u y s).clock = s.clock
      ∧ s.UplinkBecomes (s.settleHealth u y s) u y.1 ∧ s.Queues (s.settleHealth u y s) u y.2 := by
  unfold State.settleHealth
  exact ⟨⟨State.evaluateUsability_same _ _ s s u y.1, State.evaluateUsability_marks _ _ _ s rfl rfl rfl⟩,
    by simp, by simp, by simp, State.evaluateUsability_becomes _ _ s s u y.1,
    State.evaluateUsability_queues y.2 s s u y.1 rfl⟩

/-! ### Reading a step from before elapsed time moved -/

/-- R148: what an expiry advances, it advances to its moment. -/
theorem State.timeReaches_of_advanceTo {s t : State} {e : Nat} (h : t.clock = (s.advanceTo e).clock) :
    s.TimeReaches t e := by
  unfold State.TimeReaches
  rw [h]
  simp only [State.advanceTo, Clock.advance, Clock.mk.injEq, true_and]
  omega

/-- Only time moves in an advance, so what follows it reads alike from before it. -/
theorem State.sameBeyondUplinks_of_advanceTo {s t : State} {e : Nat} (h : (s.advanceTo e).SameBeyondUplinks t) :
    s.SameBeyondUplinks t := h

theorem State.uplinkBecomes_of_advanceTo {s t : State} {e : Nat} {u : Uplink} {x : UplinkState}
    (h : (s.advanceTo e).UplinkBecomes t u x) : s.UplinkBecomes t u x := h

theorem State.queues_of_advanceTo {s t : State} {e : Nat} {u : Uplink} {es : List Event}
    (h : (s.advanceTo e).Queues t u es) : s.Queues t u es := h

/-! ### The protection machine as its table -/

/-- `x` is as `old` in all that the protection machine has written: health, admin mode and the two timers. -/
def UplinkState.KeepsHealth (old x : UplinkState) : Prop :=
  x.health = old.health ∧ x.admin = old.admin ∧ x.holdOffTimer = old.holdOffTimer
    ∧ x.restoreTimer = old.restoreTimer

/-- Section 1.5.1 as a function of the health and of whether a defect is present. -/
def UplinkState.tableStep (x : UplinkState) (u : Uplink) (now : Nat) : UplinkState × List Event :=
  match x.health, x.defects.present with
  | .start, false => x.restore u now .start
  | .up, true => x.judge u now
  | .down, false => x.restore u now .clear
  | .restoring, true => { x with restoreTimer := none }.goDown u
  | _, _ => (x, [])

/-- Section 1.5, state by state: the admin mode, the two timers and the class of the defect set that go with each. -/
def HealthAgrees (h : Health) (m : AdminMode) (ho wr : Option Nat) (present : Bool) : Prop :=
  match h with
  | .idle => m = .disabled ∧ ho = none ∧ wr = none
  | .start => m ≠ .disabled ∧ ho = none ∧ wr = none ∧ present = true
  | .up => m ≠ .disabled ∧ ho = none ∧ wr = none ∧ present = false
  | .holdoff => m ≠ .disabled ∧ ho.isSome ∧ wr = none
  | .down => m ≠ .disabled ∧ ho = none ∧ wr = none ∧ present = true
  | .restoring => m ≠ .disabled ∧ ho = none ∧ wr.isSome ∧ present = false

theorem UplinkState.healthSound_iff (x : UplinkState) :
    x.HealthSound ↔ HealthAgrees x.health x.admin x.holdOffTimer x.restoreTimer x.defects.present := by
  unfold UplinkState.HealthSound HealthAgrees
  cases x.health <;> simp

/-- The table has nothing to do where health and the defect set agree. -/
theorem UplinkState.tableStep_of_agrees {x : UplinkState} {u : Uplink} {now : Nat} {m : AdminMode} {ho wr : Option Nat}
    (h : HealthAgrees x.health m ho wr x.defects.present) : x.tableStep u now = (x, []) := by
  unfold UplinkState.tableStep
  cases hc : x.health with
  | idle => rfl
  | holdoff => rfl
  | start | up | down | restoring =>
    rw [hc] at h
    obtain ⟨-, -, -, hp⟩ := h
    rw [hp]

/-- R13 to R18: on an uplink whose health agrees with its defect set, the machine acts by the table. -/
theorem UplinkState.protect_eq_tableStep {old x : UplinkState} (u : Uplink) (now : Nat) (hs : old.HealthSound)
    (hk : old.KeepsHealth x) : x.protect u now old.defects = x.tableStep u now := by
  obtain ⟨hh, -⟩ := hk
  rw [UplinkState.healthSound_iff, ← hh] at hs
  unfold UplinkState.protect
  by_cases hd : old.defects = x.defects
  · have hstays : x.tableStep u now = (x, []) := UplinkState.tableStep_of_agrees (by rwa [hd] at hs)
    rw [if_pos hd, hstays]
  · rw [if_neg hd]
    unfold UplinkState.tableStep
    cases hc : x.health with
    | idle => rfl
    | holdoff => rfl
    | start =>
      unfold UplinkState.startCheck
      cases x.defects.present <;> rfl
    | up | down | restoring =>
      rw [hc] at hs
      obtain ⟨-, -, -, hp⟩ := hs
      rw [hp]
      cases x.defects.present <;> rfl

/-- R13: the table writes health and the two timers. -/
theorem UplinkState.tableStep_shape (x : UplinkState) (u : Uplink) (now : Nat) :
    ∃ h ho wr, (x.tableStep u now).1 = { x with health := h, holdOffTimer := ho, restoreTimer := wr } := by
  unfold UplinkState.tableStep UplinkState.restore UplinkState.judge UplinkState.goUp UplinkState.goDown
  repeat' split
  all_goals exact ⟨_, _, _, rfl⟩

/-- So it moves no defect source. -/
theorem UplinkState.tableStep_defects (x : UplinkState) (u : Uplink) (now : Nat) :
    (x.tableStep u now).1.defects = x.defects := by
  obtain ⟨h, ho, wr, e⟩ := x.tableStep_shape u now
  rw [e]
  rfl

theorem UplinkState.tableStep_admin (x : UplinkState) (u : Uplink) (now : Nat) :
    (x.tableStep u now).1.admin = x.admin := by
  obtain ⟨h, ho, wr, e⟩ := x.tableStep_shape u now
  rw [e]

/-- R14, R17: an uplink brought back ends UP or RESTORING, in agreement with its empty defect set. -/
theorem UplinkState.restore_healthSound {x : UplinkState} (u : Uplink) (now : Nat) (c : Cause)
    (hm : x.admin ≠ .disabled) (hho : x.holdOffTimer = none) (hwr : x.restoreTimer = none)
    (hp : x.defects.present = false) : (x.restore u now c).1.HealthSound := by
  rw [UplinkState.healthSound_iff]
  unfold UplinkState.restore
  split
  · exact ⟨hm, hho, hwr, hp⟩
  · exact ⟨hm, hho, rfl, hp⟩

/-- R15: an uplink whose defect is judged ends DOWN or in HOLDOFF, in agreement with its defect set. -/
theorem UplinkState.judge_healthSound {x : UplinkState} (u : Uplink) (now : Nat)
    (hm : x.admin ≠ .disabled) (hho : x.holdOffTimer = none) (hwr : x.restoreTimer = none)
    (hp : x.defects.present = true) : (x.judge u now).1.HealthSound := by
  rw [UplinkState.healthSound_iff]
  unfold UplinkState.judge
  split
  · exact ⟨hm, hho, hwr, hp⟩
  · exact ⟨hm, rfl, hwr⟩

/-- The table leaves health, the timers and the defect set in agreement (R14, R15, R17, R18). -/
theorem UplinkState.tableStep_healthSound {old x : UplinkState} (u : Uplink) (now : Nat) (hs : old.HealthSound)
    (hk : old.KeepsHealth x) : (x.tableStep u now).1.HealthSound := by
  obtain ⟨hh, ha, hto, htr⟩ := hk
  rw [UplinkState.healthSound_iff, ← hh, ← ha, ← hto, ← htr] at hs
  have hstays : HealthAgrees x.health x.admin x.holdOffTimer x.restoreTimer x.defects.present → x.HealthSound :=
    x.healthSound_iff.2
  unfold UplinkState.tableStep
  cases hc : x.health <;> rw [hc] at hs hstays
  case idle => exact hstays hs
  case holdoff => exact hstays hs
  all_goals
    obtain ⟨hm, hho, hwr, -⟩ := hs
    cases hp : x.defects.present
  case start.false => exact UplinkState.restore_healthSound u now .start hm hho hwr hp
  case start.true => exact hstays ⟨hm, hho, hwr, hp⟩
  case up.false => exact hstays ⟨hm, hho, hwr, hp⟩
  case up.true => exact UplinkState.judge_healthSound u now hm hho hwr hp
  case down.false => exact UplinkState.restore_healthSound u now .clear hm hho hwr hp
  case down.true => exact hstays ⟨hm, hho, hwr, hp⟩
  case restoring.false => exact hstays ⟨hm, hho, hwr, hp⟩
  case restoring.true => exact (UplinkState.healthSound_iff _).2 ⟨hm, hho, rfl, hp⟩

/-- R14, R17: where an uplink brought back stands. -/
theorem UplinkState.restore_outcome {x : UplinkState} (u : Uplink) (now : Nat) (c : Cause)
    (hwr : x.restoreTimer = none) :
    if x.settings.waitToRestore = 0
      then (x.restore u now c).1.health = .up ∧ (x.restore u now c).1.restoreTimer = none
      else (x.restore u now c).1.health = .restoring
        ∧ (x.restore u now c).1.restoreTimer = some (now + x.settings.waitToRestore * 1000000) := by
  unfold UplinkState.restore
  split
  · exact ⟨rfl, hwr⟩
  · exact ⟨rfl, rfl⟩

/-- R15: where an uplink whose defect is judged stands. -/
theorem UplinkState.judge_outcome {x : UplinkState} (u : Uplink) (now : Nat) (hho : x.holdOffTimer = none) :
    if x.settings.holdOff = 0 then (x.judge u now).1.health = .down ∧ (x.judge u now).1.holdOffTimer = none
      else (x.judge u now).1.health = .holdoff
        ∧ (x.judge u now).1.holdOffTimer = some (now + x.settings.holdOff * 1000) := by
  unfold UplinkState.judge
  split
  · exact ⟨rfl, hho⟩
  · exact ⟨rfl, rfl⟩

/-- The table writes no setting. -/
theorem UplinkState.tableStep_settings (x : UplinkState) (u : Uplink) (now : Nat) :
    (x.tableStep u now).1.settings = x.settings := by
  obtain ⟨h, ho, wr, e⟩ := x.tableStep_shape u now
  rw [e]

/-- Section 1.5.1: health and its timers after the table. -/
theorem UplinkState.tableStep_followsTable {old x : UplinkState} (u : Uplink) (now : Nat) (hs : old.HealthSound)
    (hk : old.KeepsHealth x) : old.FollowsTable (x.tableStep u now).1 now := by
  obtain ⟨hh, ha, hto, htr⟩ := hk
  rw [UplinkState.healthSound_iff, ← hh, ← ha, ← hto, ← htr] at hs
  unfold UplinkState.FollowsTable
  rw [UplinkState.tableStep_defects, UplinkState.tableStep_settings, ← hh, ← hto, ← htr]
  unfold UplinkState.tableStep
  cases hc : x.health <;> rw [hc] at hs
  case idle => exact hc
  case holdoff => exact ⟨hc, rfl⟩
  all_goals
    obtain ⟨-, hho, hwr, -⟩ := hs
    cases hp : x.defects.present
  case start.false => exact ⟨nofun, fun _ => UplinkState.restore_outcome u now .start hwr⟩
  case start.true => exact ⟨fun _ => hc, fun h => absurd rfl h⟩
  case up.false => exact ⟨fun _ => hc, nofun⟩
  case up.true => exact ⟨fun h => absurd rfl h, fun _ => UplinkState.judge_outcome u now hho⟩
  case down.false => exact ⟨nofun, fun _ => UplinkState.restore_outcome u now .clear hwr⟩
  case down.true => exact ⟨fun _ => hc, fun h => absurd rfl h⟩
  case restoring.false => exact ⟨fun _ => ⟨hc, rfl⟩, nofun⟩
  case restoring.true => exact ⟨fun h => absurd rfl h, fun _ => ⟨rfl, rfl⟩⟩

/-- R21: the machine's event is that of the transition it makes, from whatever state. -/
theorem UplinkState.protect_report {x : UplinkState} {s t : State} {u : Uplink} (now : Nat) (before : Defects)
    (hk : x.health = (s.uplink u).health) (hh : (t.uplink u).health = (x.protect u now before).1.health)
    (hd : (t.uplink u).defects = x.defects) : (x.protect u now before).2 = s.healthReport t u := by
  unfold State.healthReport
  rw [hh, hd, ← hk]
  unfold UplinkState.protect UplinkState.startCheck UplinkState.restore UplinkState.judge UplinkState.goUp
    UplinkState.goDown
  by_cases hb : before = x.defects
  · rw [if_pos hb]
    cases x.health <;> rfl
  · rw [if_neg hb]
    cases hc : x.health with
    | idle => rfl
    | holdoff => rfl
    | start =>
      by_cases hp : x.defects.present = true
      · simp only [hp, if_true, hc]
      · by_cases hw : x.settings.waitToRestore = 0 <;> simp only [hp, hw, if_true, if_false, Bool.false_eq_true]
    | up =>
      by_cases hj : (!before.present && x.defects.present) = true
      · by_cases hf : x.settings.holdOff = 0 <;> simp only [hj, hf, if_true, if_false]
      · simp only [hj, if_false, hc, Bool.false_eq_true]
    | down =>
      by_cases hj : (before.present && !x.defects.present) = true
      · by_cases hw : x.settings.waitToRestore = 0 <;> simp only [hj, hw, if_true, if_false]
      · simp only [hj, if_false, hc, Bool.false_eq_true]
    | restoring =>
      by_cases hj : (!before.present && x.defects.present) = true
      · simp only [hj, if_true]
        rfl
      · simp only [hj, if_false, hc, Bool.false_eq_true]

/-- R47: the Probe Engine's event is the report of the degraded flag's change. -/
theorem degradeEvents_report {s t : State} {u : Uplink} {x : UplinkState} (hd : (t.uplink u).degraded = x.degraded)
    (hw : (t.uplink u).window = x.window) (hs : (t.uplink u).settings = x.settings) :
    degradeEvents u (s.uplink u) x = s.degradeReport t u := by
  unfold degradeEvents State.degradeReport nonGood
  rw [hd, hw, hs]
  cases (s.uplink u).degraded <;> cases x.degraded <;> rfl

/-- R47, R48, R53: the events of a handing over, read off the states before and after it. -/
theorem State.handOver_reports {u : Uplink} {x : UplinkState} {s : State} (hk : x.health = (s.uplink u).health) :
    s.Queues (s.handOver u x) u (s.degradeReport (s.handOver u x) u ++ s.healthReport (s.handOver u x) u) := by
  have hq := State.handOver_queues u x s
  obtain ⟨⟨a, b, e⟩, -⟩ := State.handOver_becomes u x s
  obtain ⟨⟨h, ho, wr, hshape⟩, -⟩ :=
    UplinkState.protect_shape ((s.uplink u).latch x) u s.clock.now (s.uplink u).defects
  rwa [degradeEvents_report (t := s.handOver u x) (by rw [e, hshape]; rfl) (by rw [e, hshape]; rfl)
      (by rw [e, hshape]; rfl),
    UplinkState.protect_report (x := (s.uplink u).latch x) (t := s.handOver u x) s.clock.now (s.uplink u).defects hk
      (by rw [e]) (by rw [e, hshape]; rfl)] at hq

/-- Section 1.5.1: health and its timers after a handing over from a sound state. -/
theorem State.handOver_followsTable {u : Uplink} {x : UplinkState} {s : State} (hs : (s.uplink u).HealthSound)
    (hk : (s.uplink u).KeepsHealth x) :
    (s.uplink u).FollowsTable ((s.handOver u x).uplink u) s.clock.now := by
  obtain ⟨⟨a, b, e⟩, -⟩ := State.handOver_becomes u x s
  have hk' : (s.uplink u).KeepsHealth ((s.uplink u).latch x) := hk
  rw [e, UplinkState.protect_eq_tableStep u s.clock.now hs hk']
  exact UplinkState.tableStep_followsTable u s.clock.now hs hk'

/-- Section 1.5.1: an event that moves no defect source leaves health and the timers. -/
theorem UplinkState.followsTable_of_keeps {old x : UplinkState} (now : Nat) (hs : old.HealthSound)
    (hk : old.KeepsHealth x) (hd : x.defects = old.defects) : old.FollowsTable x now := by
  obtain ⟨hh, -, hto, htr⟩ := hk
  rw [UplinkState.healthSound_iff] at hs
  unfold UplinkState.FollowsTable
  rw [hd, hh, hto, htr]
  cases hc : old.health <;> simp_all [HealthAgrees]

/-- The table reads of the uplink before the event its health and the two timers. -/
theorem UplinkState.followsTable_congr {old old' x : UplinkState} {now : Nat} (hk : old.KeepsHealth old')
    (h : old'.FollowsTable x now) : old.FollowsTable x now := by
  obtain ⟨hh, -, hto, htr⟩ := hk
  unfold UplinkState.FollowsTable at h ⊢
  rwa [hh, hto, htr] at h

/-- An event that changes neither the queue, the conduits, health nor the degraded flag has nothing to report. -/
theorem State.queues_nothing {s t : State} {u : Uplink} (he : t.events = s.events) (hc : t.conduits = s.conduits)
    (hh : (t.uplink u).health = (s.uplink u).health) (hd : (t.uplink u).degraded = (s.uplink u).degraded) :
    s.Queues t u (s.degradeReport t u ++ s.healthReport t u) := by
  have hdeg : s.degradeReport t u = [] := by
    unfold State.degradeReport
    rw [hd]
    cases (s.uplink u).degraded <;> rfl
  have hhealth : s.healthReport t u = [] := by
    unfold State.healthReport
    rw [hh]
    cases (s.uplink u).health <;> rfl
  have hcon : s.conduitReports t u = [] :=
    List.flatMap_eq_nil_iff.2 fun c _ => State.conduitReport_untouched (by unfold State.conduit; rw [hc])
  unfold State.Queues State.Hands
  rw [hdeg, hhealth, hcon]
  exact ⟨he, fun _ => by simp [he]⟩

/-! ### The rows of the filter and the deadline as handings over -/

/-- R4: the expiry of a running loss-qualify timer. -/
theorem lossQualifyExpiry_running {s : State} {u : Uplink} {e : Nat} (h : (s.uplink u).lossTimer = some e) :
    lossQualifyExpiry u s =
      (s.advanceTo e).handOver u { s.uplink u with qualLos := true, lossTimer := none } := by
  unfold lossQualifyExpiry
  rw [h]
  exact State.settleUplink_eq_handOver (s := s.advanceTo e) rfl

theorem lossQualifyExpiry_stopped {s : State} {u : Uplink} (h : (s.uplink u).lossTimer = none) :
    lossQualifyExpiry u s = s := by
  unfold lossQualifyExpiry
  rw [h]

/-- R5: the expiry of a running light-qualify timer. -/
theorem lightQualifyExpiry_running {s : State} {u : Uplink} {e : Nat} (h : (s.uplink u).lightTimer = some e) :
    lightQualifyExpiry u s =
      (s.advanceTo e).handOver u { s.uplink u with qualLos := false, lightTimer := none } := by
  unfold lightQualifyExpiry
  rw [h]
  exact State.settleUplink_eq_handOver (s := s.advanceTo e) rfl

theorem lightQualifyExpiry_stopped {s : State} {u : Uplink} (h : (s.uplink u).lightTimer = none) :
    lightQualifyExpiry u s = s := by
  unfold lightQualifyExpiry
  rw [h]

/-- R40: the expiry of a running deadline. -/
theorem continuityDeadlineExpiry_running {s : State} {u : Uplink} {e : Nat} (h : (s.uplink u).deadline = .running e) :
    continuityDeadlineExpiry u s = (s.advanceTo e).handOver u (s.uplink u).loseContinuity := by
  unfold continuityDeadlineExpiry
  rw [h]
  rfl

theorem continuityDeadlineExpiry_stopped {s : State} {u : Uplink}
    (h : (s.uplink u).deadline = .stopped ∨ (s.uplink u).deadline = .suspended) : continuityDeadlineExpiry u s = s := by
  unfold continuityDeadlineExpiry
  rcases h with h | h <;> rw [h]

/-- R2, R3: what an edge makes of a monitored uplink before the protection machine acts. -/
def UplinkState.losEdged (x : UplinkState) (level : Bool) (now : Nat) : UplinkState :=
  if level then ({ x with losPin := true } : UplinkState).losAsserted now
  else ({ x with losPin := false } : UplinkState).losDeasserted now

/-- Of health, the degraded flag and the input an edge changes the input alone. -/
theorem UplinkState.losEdged_keeps (x : UplinkState) (level : Bool) (now : Nat) :
    x.KeepsHealth (x.losEdged level now) ∧ (x.losEdged level now).degraded = x.degraded
      ∧ (x.losEdged level now).rawLos = level ∧ (x.losEdged level now).losPin = level := by
  unfold UplinkState.losEdged UplinkState.losAsserted UplinkState.losDeasserted
  cases level <;> simp only [if_true, if_false, Bool.false_eq_true]
  · split
    · exact ⟨⟨rfl, rfl, rfl, rfl⟩, rfl, rfl, rfl⟩
    · split <;> exact ⟨⟨rfl, rfl, rfl, rfl⟩, rfl, rfl, rfl⟩
  · split
    · exact ⟨⟨rfl, rfl, rfl, rfl⟩, rfl, rfl, rfl⟩
    · split <;> exact ⟨⟨rfl, rfl, rfl, rfl⟩, rfl, rfl, rfl⟩

/-- R2, R3: an edge on a monitored uplink. -/
theorem losEdge_monitored {s : State} {u : Uplink} {level : Bool} (hr : s.resetHeld = false)
    (hl : (s.uplink u).rawLos ≠ level) (hm : (s.uplink u).monitored = true) :
    losEdge u level s = s.handOver u ((s.uplink u).losEdged level s.clock.now) := by
  rw [← State.settleUplink_eq_handOver (UplinkState.losEdged_keeps _ _ _).2.1]
  unfold losEdge State.drivePin UplinkState.losEdged
  simp only [hr, hm, if_neg hl, Bool.false_eq_true, if_false, Bool.not_true, State.setUplink_setUplink,
    State.uplink_setUplink_self]
  cases level <;> rfl

/-- R1: an edge on a DISABLED uplink. -/
theorem losEdge_disabled {s : State} {u : Uplink} {level : Bool} (hr : s.resetHeld = false)
    (hl : (s.uplink u).rawLos ≠ level) (hm : (s.uplink u).monitored = false) :
    losEdge u level s = s.setUplink u { s.uplink u with losPin := level, rawLos := level } := by
  unfold losEdge State.drivePin
  simp only [hr, hm, if_neg hl, Bool.false_eq_true, if_false, Bool.not_false, if_true, State.setUplink_setUplink,
    State.uplink_setUplink_self]

/-- A level that raw LOS has, or a part held by RESET: the input alone is set (log entries 1 and 21). -/
theorem losEdge_pin {s : State} {u : Uplink} {level : Bool}
    (h : s.resetHeld = true ∨ (s.uplink u).rawLos = level) :
    losEdge u level s = s.setUplink u { s.uplink u with losPin := level } := by
  unfold losEdge State.drivePin
  rcases h with h | h <;> simp [h]

/-! ### Emission -/

/-- R32: an emission of a running clock. -/
theorem State.emit_running {s : State} {u : Uplink} {start n : Nat} (h : (s.uplink u).clock = .running start n) :
    s.emit u = (s.setUplink u
      { s.uplink u with outSeq := (s.uplink u).outSeq + 1#8, clock := .running start (n + 1) }).handProbe
        { uplink := u, seq := (s.uplink u).outSeq, rdi := (s.uplink u).localDefect } := by
  simp only [State.emit, h]

theorem State.emit_stopped {s : State} {u : Uplink} (h : (s.uplink u).clock = .stopped) : s.emit u = s := by
  simp only [State.emit, h]

end Sys2Proof.Machine
end

section
/-! SUPPORT. An uplink's soundness, apart from the state: what each rule of the filter, the probe engine and the
commands makes of it. -/

namespace Sys2Proof.Machine

/-! ### The parts of an uplink's soundness -/

/-- What `UplinksSound` asks of one uplink. -/
def UplinkState.Sound (linkUp : Bool) (x : UplinkState) : Prop :=
  x.settings.InRange ∧ x.FilterSound ∧ x.HealthSound ∧ x.DeadlineSound linkUp ∧ x.ProbeSound

/-- Of that, all but the agreement of health with the defect set, which the protection machine restores. -/
def UplinkState.InputsSound (linkUp : Bool) (x : UplinkState) : Prop :=
  x.settings.InRange ∧ x.FilterSound ∧ x.DeadlineSound linkUp ∧ x.ProbeSound

theorem UplinkState.sound_iff {linkUp : Bool} {x : UplinkState} :
    x.Sound linkUp ↔ x.InputsSound linkUp ∧ x.HealthSound := by
  unfold UplinkState.Sound UplinkState.InputsSound
  tauto

theorem uplinksSound_iff {s : State} : UplinksSound s ↔ ∀ u, (s.uplink u).Sound s.fwd.linkUp := Iff.rfl

/-- The latches, the outgoing sequence, the input's level and the flags of R53 are no part of an uplink's soundness. -/
theorem UplinkState.sound_unread {linkUp : Bool} {x : UplinkState} (pin : Bool) (l : Latches) (n : Byte) (a b : Bool) :
    ({ x with losPin := pin, latches := l, outSeq := n, shunned := a, usable := b } : UplinkState).Sound linkUp
      ↔ x.Sound linkUp := Iff.rfl

/-- R22: a latch set moves no input of the machine. -/
theorem UplinkState.latch_inputs {linkUp : Bool} {old x : UplinkState} :
    (old.latch x).InputsSound linkUp ↔ x.InputsSound linkUp := Iff.rfl

theorem UplinkState.latch_keepsHealth {old x : UplinkState} (h : old.KeepsHealth x) :
    old.KeepsHealth (old.latch x) := h

/-- Health and its timers are no input of the machine. -/
theorem UplinkState.tableStep_inputs {linkUp : Bool} {x : UplinkState} (u : Uplink) (now : Nat)
    (h : x.InputsSound linkUp) : (x.tableStep u now).1.InputsSound linkUp := by
  obtain ⟨hh, ho, wr, e⟩ := x.tableStep_shape u now
  rw [e]
  exact h

/-- R13 to R18: the machine makes an uplink sound whose inputs are, and whose health agreed before the change. -/
theorem UplinkState.protect_sound {linkUp : Bool} {old x : UplinkState} (u : Uplink) (now : Nat)
    (hs : old.HealthSound) (hk : old.KeepsHealth x) (hx : x.InputsSound linkUp) :
    ((old.latch x).protect u now old.defects).1.Sound linkUp := by
  rw [UplinkState.protect_eq_tableStep u now hs (UplinkState.latch_keepsHealth hk), UplinkState.sound_iff]
  exact ⟨UplinkState.tableStep_inputs u now (UplinkState.latch_inputs.2 hx),
    UplinkState.tableStep_healthSound u now hs (UplinkState.latch_keepsHealth hk)⟩

/-! ### The filter (section 1.2) -/

/-- R2: an asserting edge keeps the filter sound. -/
theorem UplinkState.losAsserted_inputs {linkUp : Bool} {x : UplinkState} (now : Nat) (hm : x.monitored = true)
    (hraw : x.rawLos = false) (h : x.InputsSound linkUp) : (x.losAsserted now).InputsSound linkUp := by
  obtain ⟨hr, ⟨hloss, hlight, hidle⟩, hd, hp⟩ := h
  have hnone : x.lossTimer = none := by
    cases ht : x.lossTimer with
    | none => rfl
    | some t => exact absurd (hloss (by simp [ht])).1 (by simp [hraw])
  unfold UplinkState.losAsserted
  split
  · exact ⟨hr, ⟨by simp [hnone], by simp, fun hf => absurd (hm.symm.trans hf) (by simp)⟩, hd, hp⟩
  · split
    · exact ⟨hr, ⟨by simp [hnone], by simp, fun hf => absurd (hm.symm.trans hf) (by simp)⟩, hd, hp⟩
    · exact ⟨hr, ⟨by simp_all, by simp, fun hf => absurd (hm.symm.trans hf) (by simp)⟩, hd, hp⟩

/-- R3: a deasserting edge keeps the filter sound. -/
theorem UplinkState.losDeasserted_inputs {linkUp : Bool} {x : UplinkState} (now : Nat) (hm : x.monitored = true)
    (hraw : x.rawLos = true) (h : x.InputsSound linkUp) : (x.losDeasserted now).InputsSound linkUp := by
  obtain ⟨hr, ⟨hloss, hlight, hidle⟩, hd, hp⟩ := h
  have hnone : x.lightTimer = none := by
    cases ht : x.lightTimer with
    | none => rfl
    | some t => exact absurd (hlight (by simp [ht])).1 (by simp [hraw])
  unfold UplinkState.losDeasserted
  split
  · exact ⟨hr, ⟨by simp, by simp [hnone], fun hf => absurd (hm.symm.trans hf) (by simp)⟩, hd, hp⟩
  · split
    · exact ⟨hr, ⟨by simp, by simp [hnone], fun hf => absurd (hm.symm.trans hf) (by simp)⟩, hd, hp⟩
    · exact ⟨hr, ⟨by simp, by simp_all, fun hf => absurd (hm.symm.trans hf) (by simp)⟩, hd, hp⟩

/-- R2, R3: an edge keeps the filter sound. -/
theorem UplinkState.losEdged_inputs {linkUp : Bool} {x : UplinkState} {level : Bool} (now : Nat)
    (hm : x.monitored = true) (hl : x.rawLos ≠ level) (h : x.InputsSound linkUp) :
    (x.losEdged level now).InputsSound linkUp := by
  unfold UplinkState.losEdged
  cases level with
  | true => exact UplinkState.losAsserted_inputs now hm (by simpa using hl) h
  | false => exact UplinkState.losDeasserted_inputs now hm (by simpa using hl) h

/-- R4: qualified LOS sets at the loss-qualify expiry. -/
theorem UplinkState.lossQualified_inputs {linkUp : Bool} {x : UplinkState} (ht : x.lossTimer.isSome)
    (h : x.InputsSound linkUp) :
    ({ x with qualLos := true, lossTimer := none } : UplinkState).InputsSound linkUp := by
  obtain ⟨hr, ⟨hloss, hlight, hidle⟩, hd, hp⟩ := h
  refine ⟨hr, ⟨by simp, fun hs => ?_, fun hf => ?_⟩, hd, hp⟩
  · exact absurd ((hloss ht).2.symm.trans (hlight hs).2) (by simp)
  · exact absurd (hidle hf).2.1 (Option.isSome_iff_ne_none.1 ht)

/-- R5: qualified LOS clears at the light-qualify expiry. -/
theorem UplinkState.lightQualified_inputs {linkUp : Bool} {x : UplinkState} (ht : x.lightTimer.isSome)
    (h : x.InputsSound linkUp) :
    ({ x with qualLos := false, lightTimer := none } : UplinkState).InputsSound linkUp := by
  obtain ⟨hr, ⟨hloss, hlight, hidle⟩, hd, hp⟩ := h
  refine ⟨hr, ⟨fun hs => ?_, by simp, fun hf => ?_⟩, hd, hp⟩
  · exact absurd ((hloss hs).2.symm.trans (hlight ht).2) (by simp)
  · exact absurd (hidle hf).2.2 (Option.isSome_iff_ne_none.1 ht)

/-! ### The window and the degraded flag (section 2.8) -/

theorem pushOutcome_length {w : List ProbeOutcome} (o : ProbeOutcome) (h : w.length ≤ 32) :
    (pushOutcome w o).length ≤ 32 := by
  unfold pushOutcome windowCapacity
  split <;> simp <;> omega

theorem pushMissed_length {w : List ProbeOutcome} (n : Nat) (h : w.length ≤ 32) : (pushMissed n w).length ≤ 32 := by
  unfold pushMissed
  rw [pushOutcome_foldl w _ h]
  simp
  omega

/-- R45, R46: the degraded flag agrees with the window and the thresholds. -/
def UplinkState.FlagAgrees (x : UplinkState) : Prop :=
  (x.degraded = true → x.settings.setThreshold ≠ 0 ∧ x.settings.clearThreshold < nonGood x.window)
    ∧ (x.degraded = false → x.settings.setThreshold = 0 ∨ nonGood x.window < x.settings.setThreshold)

/-- What `UplinkState.ProbeSound` asks beside that. -/
def UplinkState.ProbeCore (x : UplinkState) : Prop :=
  (x.probing = false ↔ x.continuity = .inactive) ∧ (x.probing = false ↔ x.clock = .stopped)
    ∧ (x.continuity ≠ .established →
        x.rdi = false ∧ x.window = [] ∧ x.degraded = false ∧ x.lastAccepted = none ∧ x.errored = 0)
    ∧ x.window.length ≤ 32 ∧ x.errored ≤ 255

theorem UplinkState.probeSound_iff {x : UplinkState} : x.ProbeSound ↔ x.ProbeCore ∧ x.FlagAgrees := by
  unfold UplinkState.ProbeSound UplinkState.ProbeCore UplinkState.FlagAgrees
  tauto

/-- A clear flag agrees with an emptied window. -/
theorem UplinkState.flagAgrees_of_empty {x : UplinkState} (hw : x.window = []) (hd : x.degraded = false) :
    x.FlagAgrees := by
  refine ⟨fun h => absurd (hd.symm.trans h) (by simp), fun _ => ?_⟩
  rw [hw]
  simp [nonGood]
  omega

/-- Without continuity the window is empty and the flag clear. -/
theorem UplinkState.ProbeCore.flagAgrees {x : UplinkState} (h : x.ProbeCore) (hc : x.continuity ≠ .established) :
    x.FlagAgrees := by
  obtain ⟨-, -, hne, -⟩ := h
  obtain ⟨-, hw, hd, -⟩ := hne hc
  exact UplinkState.flagAgrees_of_empty hw hd

/-- R45, R46: the flag as it is evaluated agrees. -/
theorem UplinkState.evaluateDegrade_agrees {x : UplinkState} (h : x.settings.InRange) :
    x.evaluateDegrade.FlagAgrees := by
  obtain ⟨-, -, -, -, -, -, -, -, -, -, -, hlt⟩ := h
  show (x.degradeDue = true → _) ∧ (x.degradeDue = false → _)
  unfold UplinkState.degradeDue UplinkState.evaluateDegrade
  by_cases h0 : x.settings.setThreshold = 0
  · simp [h0]
  · have := hlt h0
    cases x.degraded <;> simp [h0] <;> omega

/-- R45: the evaluation of an emptied window clears the flag that is clear. -/
theorem UplinkState.degradeDue_of_empty {x : UplinkState} (hw : x.window = []) (hd : x.degraded = false) :
    x.degradeDue = false := by
  unfold UplinkState.degradeDue
  rw [hw, hd]
  simp [nonGood]

/-- R45, R46: the evaluation of the degraded flag makes the probe state sound. -/
theorem UplinkState.evaluateDegrade_probeSound {x : UplinkState} (hr : x.settings.InRange) (h : x.ProbeCore) :
    x.evaluateDegrade.ProbeSound := by
  refine UplinkState.probeSound_iff.2 ⟨?_, UplinkState.evaluateDegrade_agrees hr⟩
  obtain ⟨hpc, hpk, hne, hw, he⟩ := h
  refine ⟨hpc, hpk, fun hc => ?_, hw, he⟩
  obtain ⟨hrdi, hwin, hdeg, hlast, herr⟩ := hne hc
  exact ⟨hrdi, hwin, UplinkState.degradeDue_of_empty hwin hdeg, hlast, herr⟩

/-! ### Probe arrivals and the deadline (sections 2.4 and 2.5) -/

/-- R34 to R38: what an arrival can make of an uplink. -/
theorem UplinkState.arrive_cases (x : UplinkState) (seq : Byte) (rdi good : Bool) (now : Nat) :
    x.arrive seq rdi good now = x
      ∨ x.probing = true ∧ (x.arrive seq rdi good now = x.resynchronise seq rdi now
        ∨ x.continuity = .established ∧ (x.arrive seq rdi good now = x.erroredArrival now
          ∨ ∃ g, x.arrive seq rdi good now = x.acceptInWindow seq rdi g now)) := by
  by_cases hp : x.probing = true
  · by_cases hest : x.continuity = .established
    · cases good
      · exact .inr ⟨hp, .inr ⟨hest, .inl (by simp [UplinkState.arrive, hp, hest])⟩⟩
      · cases hl : x.lastAccepted with
        | none => exact .inr ⟨hp, .inl (by simp [UplinkState.arrive, hp, hest, hl])⟩
        | some last =>
          by_cases hg : 1 ≤ (seq - last).toNat ∧ (seq - last).toNat ≤ 127
          · exact .inr ⟨hp, .inr ⟨hest, .inr ⟨(seq - last).toNat, by
              simp only [UplinkState.arrive, hp, hest, hl, if_pos hg, Bool.not_true, Bool.false_eq_true, if_false,
                if_true]⟩⟩⟩
          · exact .inl (by
              simp only [UplinkState.arrive, hp, hest, hl, if_neg hg, Bool.not_true, Bool.false_eq_true, if_false,
                if_true])
    · cases good
      · exact .inl (by simp [UplinkState.arrive, hp, hest])
      · exact .inr ⟨hp, .inl (by simp [UplinkState.arrive, hp, hest])⟩
  · exact .inl (by simp [UplinkState.arrive, hp])

/-- R34 to R38: an arrival leaves health alone. -/
theorem UplinkState.arrive_keepsHealth (x : UplinkState) (seq : Byte) (rdi good : Bool) (now : Nat) :
    x.KeepsHealth (x.arrive seq rdi good now) := by
  obtain e | ⟨-, e | ⟨-, e | ⟨g, e⟩⟩⟩ := x.arrive_cases seq rdi good now <;> rw [e] <;> exact ⟨rfl, rfl, rfl, rfl⟩

/-- R34 to R38: an arrival, which finds the link UP, keeps the probe state sound. -/
theorem UplinkState.arrive_inputs {x : UplinkState} (seq : Byte) (rdi good : Bool) (now : Nat)
    (h : x.InputsSound true) : (x.arrive seq rdi good now).InputsSound true := by
  obtain e | ⟨hp, hcase⟩ := x.arrive_cases seq rdi good now
  · rwa [e]
  · obtain ⟨hr, hf, hd, hpc, hpk, hne, hw, he, -, -⟩ := h
    obtain e | ⟨hest, e | ⟨g, e⟩⟩ := hcase <;> rw [e]
    · exact ⟨hr, hf, ⟨rfl, rfl⟩, UplinkState.evaluateDegrade_probeSound hr
        ⟨iff_of_false (fun hf => absurd (hp.symm.trans hf) (by simp)) (by simp), hpk, by simp,
          pushOutcome_length _ hw, by simp⟩⟩
    · exact ⟨hr, hf, ⟨hest, rfl⟩, UplinkState.evaluateDegrade_probeSound hr
        ⟨hpc, hpk, fun hc => absurd hest hc, pushOutcome_length _ hw, saturating_le _ _⟩⟩
    · exact ⟨hr, hf, ⟨hest, rfl⟩, UplinkState.evaluateDegrade_probeSound hr
        ⟨hpc, hpk, fun hc => absurd hest hc, pushOutcome_length _ (pushMissed_length _ hw), by simp⟩⟩

/-- R40: the deadline's expiry keeps the probe state sound. -/
theorem UplinkState.loseContinuity_inputs {linkUp : Bool} {x : UplinkState} (hc : x.continuity = .established)
    (h : x.InputsSound linkUp) : x.loseContinuity.InputsSound linkUp := by
  obtain ⟨hr, hf, hd, hpc, hpk, hne, hw, he, hset, hclear⟩ := h
  rw [hc] at hpc
  refine ⟨hr, hf, by simp [UplinkState.DeadlineSound, UplinkState.loseContinuity], ?_, hpk,
    fun _ => ⟨rfl, rfl, rfl, rfl, rfl⟩, by simp [UplinkState.loseContinuity], by simp [UplinkState.loseContinuity],
    by simp [UplinkState.loseContinuity], fun _ => ?_⟩
  · show x.probing = false ↔ Continuity.lost = .inactive
    simpa using hpc
  · simp only [UplinkState.loseContinuity, nonGood, List.countP_nil]
    omega

/-- R42: the link coming UP resumes a suspended deadline. -/
theorem UplinkState.resumeDeadline_sound {x : UplinkState} (now : Nat) (h : x.Sound false) :
    (x.resumeDeadline now).Sound true := by
  obtain ⟨hr, hf, hh, hd, hp⟩ := h
  unfold UplinkState.resumeDeadline
  unfold UplinkState.DeadlineSound at hd
  cases hx : x.deadline <;> rw [hx] at hd
  · exact ⟨hr, hf, hh, by simpa [UplinkState.DeadlineSound, hx] using hd, hp⟩
  · exact absurd hd.2 (by simp)
  · exact ⟨hr, hf, hh, ⟨hd.1, rfl⟩, hp⟩

/-- R41: the link going DOWN suspends the deadline of an uplink whose continuity is ESTABLISHED. -/
theorem UplinkState.suspendDeadline_sound {linkUp : Bool} {x : UplinkState} (h : x.Sound linkUp) :
    x.suspendDeadline.Sound false := by
  obtain ⟨hr, hf, hh, hd, hp⟩ := h
  unfold UplinkState.suspendDeadline
  split
  · rename_i hc
    exact ⟨hr, hf, hh, ⟨hc, rfl⟩, hp⟩
  · rename_i hc
    refine ⟨hr, hf, hh, ?_, hp⟩
    unfold UplinkState.DeadlineSound at hd ⊢
    cases hx : x.deadline <;> rw [hx] at hd
    · exact hd
    · exact absurd hd.1 hc
    · exact absurd hd.1 hc

/-! ### Settings (R8, R20, R49) -/

theorem clampTo_bounds {lo hi : Nat} (n : Nat) (h : lo ≤ hi) : lo ≤ clampTo lo hi n ∧ clampTo lo hi n ≤ hi := by
  unfold clampTo
  split
  · omega
  · split <;> omega

theorem clampTo_zero_le (hi n : Nat) : clampTo 0 hi n ≤ hi := (clampTo_bounds n (Nat.zero_le hi)).2

/-- R8, R20, R49: clamped settings are in their ranges. -/
theorem clampSettings_inRange (f : UplinkFields) (c : Option Conduit) (p : Policy) :
    (clampSettings f c p).InRange := by
  obtain ⟨hi1, hi2⟩ := clampTo_bounds (lo := 1) (hi := 250) f.interval.toNat (by omega)
  obtain ⟨hm1, hm2⟩ := clampTo_bounds (lo := 2) (hi := 15) f.multiplier.toNat (by omega)
  have hph := clampTo_zero_le (clampTo 1 250 f.interval.toNat - 1) f.phase.toNat
  have hct := clampTo_zero_le (clampTo 0 32 f.setThreshold.toNat - 1) f.clearThreshold.toNat
  refine ⟨clampTo_zero_le _ _, clampTo_zero_le _ _, clampTo_zero_le _ _, clampTo_zero_le _ _, hi1, hi2, ?_, ?_, ?_,
    clampTo_zero_le _ _, ?_, ?_⟩
  all_goals simp only [clampSettings]
  · omega
  · split <;> omega
  · split <;> omega
  · intro h0; rw [if_pos h0]
  · intro h0; rw [if_neg h0]; omega

/-- R170: what SET-UPLINK's judgement admits. -/
theorem judgeSettings_good {f : UplinkFields} {u : Uplink} {new : Settings} :
    judgeSettings f = .good (u, new) ↔ judgeUplink f.uplink = some u
      ∧ ∃ c p, judgeMembership f.conduit = some c ∧ judgePolicy f.policy = some p ∧ new = clampSettings f c p := by
  unfold judgeSettings
  cases judgeUplink f.uplink with
  | none => simp
  | some v =>
    cases judgeMembership f.conduit with
    | none => simp
    | some c =>
      cases judgePolicy f.policy with
      | none => simp
      | some p => simp [eq_comm]

/-- SET-UPLINK writes only settings in range. -/
theorem judgeSettings_inRange {f : UplinkFields} {u : Uplink} {new : Settings} (h : judgeSettings f = .good (u, new)) :
    new.InRange := by
  obtain ⟨-, c, p, -, -, rfl⟩ := judgeSettings_good.1 h
  exact clampSettings_inRange f c p

/-! ### Probing begun and ended, the clock, the commands (sections 1.3, 2.2, 2.3) -/

/-- A clock that runs keeps running when it is started anew or counts an emission. -/
theorem UplinkState.runClock_sound {linkUp : Bool} {x : UplinkState} (start n : Nat) (hc : x.clock ≠ .stopped)
    (h : x.InputsSound linkUp) : ({ x with clock := .running start n } : UplinkState).InputsSound linkUp := by
  obtain ⟨hr, hf, hd, hpc, hpk, hrest⟩ := h
  refine ⟨hr, hf, hd, hpc, ?_, hrest⟩
  show x.probing = false ↔ ProbeClock.running start n = .stopped
  simpa [hc] using hpk

/-- R27: an uplink that probes has a running clock. -/
theorem UplinkState.clock_of_probing {linkUp : Bool} {x : UplinkState} (hp : x.probing = true)
    (h : x.InputsSound linkUp) : x.clock ≠ .stopped := by
  obtain ⟨-, -, -, -, hpk, -⟩ := h
  exact fun hc => absurd (hpk.2 hc) (by simp [hp])

/-- R29: the multiplier begins probing. -/
theorem UplinkState.beginByMultiplier_inputs {x : UplinkState} (now : Nat) (linkUp : Bool) (hr : x.settings.InRange)
    (hf : x.FilterSound) (hp : x.probing = true) : (x.beginByMultiplier now linkUp).InputsSound linkUp := by
  have hthr : x.settings.setThreshold = 0 ∨ 0 < x.settings.setThreshold := by omega
  unfold UplinkState.beginByMultiplier
  split
  · refine ⟨hr, hf, by simp [UplinkState.DeadlineSound], ?_, ?_, by simp, by simp, by simp, by simp, ?_⟩
    · exact iff_of_false (fun h => absurd (hp.symm.trans h) (by simp)) (by simp)
    · exact iff_of_false (fun h => absurd (hp.symm.trans h) (by simp)) (by simp)
    · simpa [nonGood] using hthr
  · refine ⟨hr, hf, ?_, ?_, ?_, by simp, by simp, by simp, by simp, ?_⟩
    · cases linkUp <;> simp [UplinkState.DeadlineSound]
    · exact iff_of_false (fun h => absurd (hp.symm.trans h) (by simp)) (by simp)
    · exact iff_of_false (fun h => absurd (hp.symm.trans h) (by simp)) (by simp)
    · simpa [nonGood] using hthr

/-- R27, R30: an uplink that does not probe any more. -/
theorem UplinkState.endProbing_inputs {linkUp : Bool} {x : UplinkState} (hr : x.settings.InRange)
    (hf : x.FilterSound) (hp : x.probing = false) : x.endProbing.InputsSound linkUp := by
  have hthr : x.settings.setThreshold = 0 ∨ 0 < x.settings.setThreshold := by omega
  refine ⟨hr, hf, by simp [UplinkState.DeadlineSound, UplinkState.endProbing], iff_of_true hp rfl,
    iff_of_true hp rfl, fun _ => ⟨rfl, rfl, rfl, rfl, rfl⟩, by simp [UplinkState.endProbing],
    by simp [UplinkState.endProbing], by simp [UplinkState.endProbing], fun _ => ?_⟩
  simpa [nonGood, UplinkState.endProbing] using hthr

/-- R29, R30: the three ways a SET-UPLINK can take probing. -/
theorem UplinkState.crossMultiplier_cases (old x : UplinkState) (now : Nat) (linkUp : Bool) :
    old.probing = false ∧ x.probing = true ∧ old.crossMultiplier x now linkUp = x.beginByMultiplier now linkUp
      ∨ old.probing = true ∧ x.probing = false ∧ old.crossMultiplier x now linkUp = x.endProbing
      ∨ x.probing = old.probing ∧ old.crossMultiplier x now linkUp = x := by
  unfold UplinkState.crossMultiplier
  cases old.probing <;> cases x.probing <;> simp

/-- What the multiplier's crossing leaves of the uplink that SET-UPLINK writes. -/
theorem UplinkState.crossMultiplier_leaves (old x : UplinkState) (now : Nat) (linkUp : Bool) :
    x.KeepsHealth (old.crossMultiplier x now linkUp) ∧ (old.crossMultiplier x now linkUp).settings = x.settings
      ∧ (old.crossMultiplier x now linkUp).probing = x.probing
      ∧ ((old.crossMultiplier x now linkUp).FilterSound ↔ x.FilterSound) := by
  obtain ⟨-, -, e⟩ | ⟨-, -, e⟩ | ⟨-, e⟩ := old.crossMultiplier_cases x now linkUp <;> rw [e]
  · unfold UplinkState.beginByMultiplier
    split <;> exact ⟨⟨rfl, rfl, rfl, rfl⟩, rfl, rfl, Iff.rfl⟩
  · exact ⟨⟨rfl, rfl, rfl, rfl⟩, rfl, rfl, Iff.rfl⟩
  · exact ⟨⟨rfl, rfl, rfl, rfl⟩, rfl, rfl, Iff.rfl⟩

/-- R27, R29, R30: new settings keep the probe state, but for the agreement of the degraded flag with new thresholds. -/
theorem UplinkState.crossMultiplier_core {linkUp : Bool} {old : UplinkState} {new : Settings} (now : Nat)
    (hr : new.InRange) (h : old.InputsSound linkUp) (x : UplinkState) (hx : x = { old with settings := new }) :
    (old.crossMultiplier x now linkUp).DeadlineSound linkUp ∧ (old.crossMultiplier x now linkUp).ProbeCore
      ∧ (old.settings.setThreshold = new.setThreshold → old.settings.clearThreshold = new.clearThreshold →
          (old.crossMultiplier x now linkUp).FlagAgrees) := by
  obtain ⟨-, hf, hd, hprobe⟩ := h
  obtain ⟨⟨hpc, hpk, hrest⟩, hagree⟩ := UplinkState.probeSound_iff.1 hprobe
  have hxr : x.settings.InRange := by rw [hx]; exact hr
  have hxf : x.FilterSound := by rw [hx]; exact hf
  obtain ⟨-, hp, e⟩ | ⟨-, hp, e⟩ | ⟨hp, e⟩ := old.crossMultiplier_cases x now linkUp <;> rw [e]
  · obtain ⟨-, -, hd', hp'⟩ := UplinkState.beginByMultiplier_inputs now linkUp hxr hxf hp
    obtain ⟨hcore, ha⟩ := UplinkState.probeSound_iff.1 hp'
    exact ⟨hd', hcore, fun _ _ => ha⟩
  · obtain ⟨-, -, hd', hp'⟩ := UplinkState.endProbing_inputs (linkUp := linkUp) hxr hxf hp
    obtain ⟨hcore, ha⟩ := UplinkState.probeSound_iff.1 hp'
    exact ⟨hd', hcore, fun _ _ => ha⟩
  · rw [← hp] at hpc hpk
    subst hx
    refine ⟨hd, ⟨hpc, hpk, hrest⟩, fun h1 h2 => ?_⟩
    unfold UplinkState.FlagAgrees at hagree ⊢
    rwa [h1, h2] at hagree

/-- R49: SET-UPLINK's effects leave health alone. -/
theorem UplinkState.applySettings_keepsHealth (old : UplinkState) (new : Settings) (now : Nat) (linkUp : Bool) :
    old.KeepsHealth (old.applySettings new now linkUp) := by
  obtain ⟨hk, -⟩ := old.crossMultiplier_leaves { old with settings := new } now linkUp
  unfold UplinkState.applySettings UplinkState.evaluateDegrade UplinkState.restartClock
  simp only
  split <;> split <;> exact hk

/-- Nor do they touch the filter; every setting is the new one. -/
theorem UplinkState.applySettings_leaves (old : UplinkState) (new : Settings) (now : Nat) (linkUp : Bool) :
    (old.applySettings new now linkUp).settings = new ∧ (old.applySettings new now linkUp).losPin = old.losPin
      ∧ (old.applySettings new now linkUp).rawLos = old.rawLos
      ∧ (old.applySettings new now linkUp).qualLos = old.qualLos
      ∧ (old.applySettings new now linkUp).lossTimer = old.lossTimer
      ∧ (old.applySettings new now linkUp).lightTimer = old.lightTimer
      ∧ (old.applySettings new now linkUp).latches = old.latches := by
  obtain ⟨x, hx⟩ : ∃ x, x = old.crossMultiplier { old with settings := new } now linkUp := ⟨_, rfl⟩
  have hleaves : x.settings = new ∧ x.losPin = old.losPin ∧ x.rawLos = old.rawLos ∧ x.qualLos = old.qualLos
      ∧ x.lossTimer = old.lossTimer ∧ x.lightTimer = old.lightTimer ∧ x.latches = old.latches := by
    rw [hx]
    unfold UplinkState.crossMultiplier UplinkState.beginByMultiplier UplinkState.endProbing
    repeat' split
    all_goals exact ⟨rfl, rfl, rfl, rfl, rfl, rfl, rfl⟩
  unfold UplinkState.applySettings UplinkState.evaluateDegrade UplinkState.restartClock
  simp only [← hx]
  split <;> split <;> exact hleaves

/-- R49: SET-UPLINK's effects keep the filter and the probe state sound. -/
theorem UplinkState.applySettings_inputs {linkUp : Bool} {old : UplinkState} {new : Settings} (now : Nat)
    (hr : new.InRange) (h : old.InputsSound linkUp) : (old.applySettings new now linkUp).InputsSound linkUp := by
  obtain ⟨hd, hcore, hagree⟩ := UplinkState.crossMultiplier_core now hr h _ rfl
  obtain ⟨-, hset, hprob, hfil⟩ := old.crossMultiplier_leaves { old with settings := new } now linkUp
  have hf : ({ old with settings := new } : UplinkState).FilterSound := h.2.1
  unfold UplinkState.applySettings
  revert hd hcore hagree hset hprob hfil
  generalize old.crossMultiplier { old with settings := new } now linkUp = x1
  intro hd hcore hagree hset hprob hfil
  obtain ⟨x2, hx2⟩ : ∃ x2, x2 = if clockStarts old x1 then x1.restartClock now else x1 := ⟨_, rfl⟩
  have hcore2 : x2.ProbeCore := by
    rw [hx2]
    split
    · rename_i hstart
      have hp : x1.probing = true := by
        unfold clockStarts at hstart
        exact (Bool.and_eq_true_iff.1 hstart).1
      obtain ⟨hpc, -, hrest⟩ := hcore
      exact ⟨hpc, iff_of_false (fun hf => absurd (hp.symm.trans hf) (by simp)) (by simp [UplinkState.restartClock]),
        hrest⟩
    · exact hcore
  have hsame : x2.settings = new ∧ x2.FilterSound ∧ x2.DeadlineSound linkUp ∧ (x2.FlagAgrees ↔ x1.FlagAgrees) := by
    rw [hx2]
    split <;> exact ⟨hset, hfil.2 hf, hd, Iff.rfl⟩
  obtain ⟨hset2, hfil2, hd2, hag2⟩ := hsame
  rw [← hset2] at hr
  simp only [← hx2]
  split
  · exact ⟨hr, hfil2, hd2, UplinkState.evaluateDegrade_probeSound hr hcore2⟩
  · rename_i hno
    refine ⟨hr, hfil2, hd2, UplinkState.probeSound_iff.2 ⟨hcore2, ?_⟩⟩
    by_cases hp : x2.probing = true
    · simp only [hp, Bool.true_and, Bool.or_eq_true, decide_eq_true_eq, not_or, not_not] at hno
      exact hag2.2 (hagree hno.1 hno.2)
    · exact hcore2.flagAgrees (by rw [hcore2.1.1 (by simpa using hp)]; simp)

/-- R10: what enabling leaves and sets apart from the probe state. -/
theorem UplinkState.enable_fields (x : UplinkState) (m : AdminMode) (now : Nat) :
    (x.enable m now).admin = m ∧ (x.enable m now).health = .start ∧ (x.enable m now).holdOffTimer = x.holdOffTimer
      ∧ (x.enable m now).restoreTimer = x.restoreTimer ∧ (x.enable m now).rawLos = x.rawLos
      ∧ (x.enable m now).losPin = x.losPin := by
  unfold UplinkState.enable
  simp only
  split <;> exact ⟨rfl, rfl, rfl, rfl, rfl, rfl⟩

/-- R14: the START check writes health and the wait-to-restore timer. -/
theorem UplinkState.startCheck_shape (x : UplinkState) (u : Uplink) (now : Nat) :
    ∃ h wr, (x.startCheck u now).1 = { x with health := h, restoreTimer := wr } := by
  unfold UplinkState.startCheck UplinkState.restore UplinkState.goUp
  split
  · exact ⟨_, _, rfl⟩
  · split <;> exact ⟨_, _, rfl⟩

/-- R10: a DISABLED uplink enabled, before the START check. -/
theorem UplinkState.enable_inputs {linkUp : Bool} {x : UplinkState} (m : AdminMode) (now : Nat)
    (hx : x.admin = .disabled) (hm : m ≠ .disabled) (h : x.InputsSound linkUp) :
    (x.enable m now).InputsSound linkUp := by
  have hmon : x.monitored = false := by simp [UplinkState.monitored, hx]
  have hpr : x.probing = false := by simp [UplinkState.probing, hmon]
  obtain ⟨hr, ⟨-, -, hidle⟩, hd, hprobe⟩ := h
  obtain ⟨-, hloss, hlight⟩ := hidle hmon
  obtain ⟨⟨hpc, hpk, hrest⟩, hagree⟩ := UplinkState.probeSound_iff.1 hprobe
  have hthr : x.settings.setThreshold = 0 ∨ 0 < x.settings.setThreshold := by omega
  unfold UplinkState.enable
  split
  · rename_i hmul
    refine ⟨hr, ⟨by simp [UplinkState.beginFromIdle, hloss], by simp [UplinkState.beginFromIdle, hlight],
      by simp [UplinkState.beginFromIdle, UplinkState.monitored, hm]⟩,
      by simp [UplinkState.beginFromIdle, UplinkState.DeadlineSound], UplinkState.probeSound_iff.2 ⟨⟨?_, ?_, ?_⟩,
        UplinkState.flagAgrees_of_empty rfl rfl⟩⟩
    · simp [UplinkState.beginFromIdle, UplinkState.probing, UplinkState.monitored, hm, hmul]
    · simp [UplinkState.beginFromIdle, UplinkState.probing, UplinkState.monitored, hm, hmul]
    · simp [UplinkState.beginFromIdle]
  · rename_i hmul
    have hmul : x.settings.multiplier = 0 := by simpa using hmul
    refine ⟨hr, ⟨by simp [hloss], by simp [hlight], by simp [UplinkState.monitored, hm]⟩, hd,
      UplinkState.probeSound_iff.2 ⟨⟨?_, ?_, hrest⟩, hagree⟩⟩
    · simpa [UplinkState.probing, hmul] using hpc.1 hpr
    · simpa [UplinkState.probing, hmul] using hpk.1 hpr

/-- R7, R9, R30: a monitored uplink set to DISABLED. -/
theorem UplinkState.disable_sound {linkUp : Bool} {x : UplinkState} (h : x.InputsSound linkUp) :
    x.disable.Sound linkUp := by
  obtain ⟨hr, -, hd, hprobe⟩ := h
  obtain ⟨⟨hpc, hpk, hrest⟩, hagree⟩ := UplinkState.probeSound_iff.1 hprobe
  have hhealth : ∀ y : UplinkState, ({ y with
      admin := .disabled, health := .idle, holdOffTimer := none, restoreTimer := none, qualLos := false,
      lossTimer := none, lightTimer := none } : UplinkState).HealthSound := fun y =>
    (UplinkState.healthSound_iff _).2 ⟨rfl, rfl, rfl⟩
  have hfilter : ∀ y : UplinkState, ({ y with
      admin := .disabled, health := .idle, holdOffTimer := none, restoreTimer := none, qualLos := false,
      lossTimer := none, lightTimer := none } : UplinkState).FilterSound := fun y =>
    ⟨by simp, by simp, fun _ => ⟨rfl, rfl, rfl⟩⟩
  rw [UplinkState.sound_iff]
  unfold UplinkState.disable
  split
  · exact ⟨UplinkState.endProbing_inputs (x := { x with
      admin := .disabled, health := .idle, holdOffTimer := none, restoreTimer := none, qualLos := false,
      lossTimer := none, lightTimer := none }) hr (hfilter x) rfl, hhealth _⟩
  · rename_i hp
    have hpr : x.probing = false := by simpa using hp
    exact ⟨⟨hr, hfilter x, hd, UplinkState.probeSound_iff.2
      ⟨⟨iff_of_true rfl (hpc.1 hpr), iff_of_true rfl (hpk.1 hpr), hrest⟩, hagree⟩⟩, hhealth x⟩

/-- R11: ACTIVE and DRAIN exchanged. -/
theorem UplinkState.exchangeMode_sound {linkUp : Bool} {x : UplinkState} (m : AdminMode) (hx : x.admin ≠ .disabled)
    (hm : m ≠ .disabled) (h : x.Sound linkUp) : ({ x with admin := m } : UplinkState).Sound linkUp := by
  have hmon : ({ x with admin := m } : UplinkState).monitored = x.monitored := by
    simp [UplinkState.monitored, hx, hm]
  have hpr : ({ x with admin := m } : UplinkState).probing = x.probing := by
    unfold UplinkState.probing
    rw [hmon]
  have hdef : ({ x with admin := m } : UplinkState).defects = x.defects := by
    unfold UplinkState.defects
    rw [hpr]
  obtain ⟨hr, ⟨h1, h2, h3⟩, ⟨hidle, hrest⟩, hd, hprobe⟩ := h
  refine ⟨hr, ⟨h1, h2, by rwa [hmon]⟩, ⟨?_, ?_⟩, hd, ?_⟩
  · simpa [hm, hx] using hidle
  · rwa [hdef]
  · unfold UplinkState.ProbeSound at hprobe ⊢
    rwa [hpr]

end Sys2Proof.Machine
end

section
/-! SUPPORT. The uplinks' soundness over the state while the part runs: kept by every operation and every command. -/

namespace Sys2Proof.Machine

/-! ### The invariant of a running part -/

/-- A part that RESET does not hold, whose uplinks are sound and whose raw LOS follows the inputs. -/
def State.RunningSound (s : State) : Prop :=
  s.resetHeld = false ∧ ∀ u, (s.uplink u).Sound s.fwd.linkUp ∧ (s.uplink u).rawLos = (s.uplink u).losPin

theorem State.runningSound_iff {s : State} (h : s.resetHeld = false) : s.RunningSound ↔ MonitorSound s := by
  unfold State.RunningSound MonitorSound RawFollowsInput HeldAtReset
  rw [uplinksSound_iff]
  constructor
  · rintro ⟨-, hu⟩
    exact ⟨fun u => (hu u).1, fun _ u => (hu u).2, fun ht => absurd (h.symm.trans ht) (by simp)⟩
  · rintro ⟨hs, hraw, -⟩
    exact ⟨h, fun u => ⟨hs u, hraw h u⟩⟩

/-- Where no more than the shunned and usable flags of the uplinks change, and the link and RESET stay, so does the
invariant. -/
theorem State.RunningSound.of_flags {s t : State} (h : s.RunningSound)
    (hu : ∀ u, ∃ a b, t.uplink u = { s.uplink u with shunned := a, usable := b })
    (hl : t.fwd.linkUp = s.fwd.linkUp) (hr : t.resetHeld = s.resetHeld) : t.RunningSound := by
  refine ⟨hr.trans h.1, fun u => ?_⟩
  obtain ⟨a, b, e⟩ := hu u
  rw [e, hl]
  exact h.2 u

/-- What leaves the uplinks, the link and RESET leaves the invariant. -/
theorem State.RunningSound.of_same {s t : State} (h : s.RunningSound) (hu : t.uplinks = s.uplinks)
    (hl : t.fwd.linkUp = s.fwd.linkUp) (hr : t.resetHeld = s.resetHeld) : t.RunningSound :=
  h.of_flags (fun u => ⟨(s.uplink u).shunned, (s.uplink u).usable, by unfold State.uplink; rw [hu]⟩) hl hr

/-- A step that gives one uplink a sound state keeps the invariant. -/
theorem State.RunningSound.becomes {s t : State} {u : Uplink} {x : UplinkState} (h : s.RunningSound)
    (hb : s.UplinkBecomes t u x) (hx : x.Sound s.fwd.linkUp) (hraw : x.rawLos = x.losPin)
    (hl : t.fwd.linkUp = s.fwd.linkUp) (hr : t.resetHeld = s.resetHeld) : t.RunningSound := by
  refine ⟨hr.trans h.1, fun v => ?_⟩
  rw [hl]
  by_cases hv : v = u
  · obtain ⟨⟨a, b, e⟩, -⟩ := hb
    rw [hv, e]
    exact ⟨hx, hraw⟩
  · obtain ⟨a, b, e⟩ := hb.2 v hv
    rw [e]
    exact h.2 v

/-- Elapsed time is no part of the invariant. -/
theorem State.RunningSound.advanceTo {s : State} (h : s.RunningSound) (t : Nat) : (s.advanceTo t).RunningSound := h

/-- Nor are events and replies. -/
theorem State.RunningSound.reply {s : State} (h : s.RunningSound) (type tag : Byte) (b : ReplyBody) :
    (s.reply type tag b).RunningSound := h

/-- A sound uplink written keeps the invariant. -/
theorem State.RunningSound.setUplink {s : State} {u : Uplink} {x : UplinkState} (h : s.RunningSound)
    (hx : x.Sound s.fwd.linkUp) (hraw : x.rawLos = x.losPin) : (s.setUplink u x).RunningSound := by
  refine ⟨h.1, fun v => ?_⟩
  rw [State.uplink_setUplink]
  split
  · exact ⟨hx, hraw⟩
  · exact h.2 v

/-- R13, R48, R53: a handing over keeps the invariant when what is handed over keeps health and is sound beside it. -/
theorem State.RunningSound.handOver {s : State} {u : Uplink} {x : UplinkState} (h : s.RunningSound)
    (hk : (s.uplink u).KeepsHealth x) (hx : x.InputsSound s.fwd.linkUp) (hraw : x.rawLos = x.losPin) :
    (s.handOver u x).RunningSound := by
  obtain ⟨-, -, -, ⟨⟨-, -, -, -, -, -, -, -, -, hheld, -⟩, -⟩, hfwd, -⟩ := State.handOver_spec u x s
  obtain ⟨hsound, -⟩ := h.2 u
  obtain ⟨-, hhealth⟩ := UplinkState.sound_iff.1 hsound
  have hshape := UplinkState.protect_eq_tableStep u s.clock.now hhealth (UplinkState.latch_keepsHealth hk)
  obtain ⟨hh, ho, wr, e⟩ := ((s.uplink u).latch x).tableStep_shape u s.clock.now
  refine h.becomes (State.handOver_becomes u x s) (UplinkState.protect_sound u _ hhealth hk hx) ?_
    (by rw [hfwd]) hheld
  rw [hshape, e]
  exact hraw

/-- The same where the health is written by a rule of its own. -/
theorem State.RunningSound.settleHealth {s : State} {u : Uplink} {y : UplinkState × List Event} (h : s.RunningSound)
    (hy : y.1.Sound s.fwd.linkUp) (hraw : y.1.rawLos = y.1.losPin) : (s.settleHealth u y s).RunningSound := by
  obtain ⟨⟨⟨-, -, -, -, -, -, -, -, -, hheld, -⟩, -⟩, hfwd, -, -, hb, -⟩ := State.settleHealth_spec u y s
  exact h.becomes hb hy hraw (by rw [hfwd]) hheld

/-! ### The filter and the timers -/

theorem losEdge_keeps {s : State} (u : Uplink) (level : Bool) (h : s.RunningSound) :
    (losEdge u level s).RunningSound := by
  obtain ⟨hsound, hraw⟩ := h.2 u
  by_cases hl : (s.uplink u).rawLos = level
  · rw [losEdge_pin (.inr hl)]
    exact h.setUplink hsound hl
  · cases hm : (s.uplink u).monitored with
    | false =>
      obtain ⟨hr, ⟨-, -, hidle⟩, hhealth, hd, hp⟩ := hsound
      obtain ⟨hq, hloss, hlight⟩ := hidle hm
      rw [losEdge_disabled h.1 hl hm]
      exact h.setUplink ⟨hr, ⟨by simp [hloss], by simp [hlight], hidle⟩, hhealth, hd, hp⟩ rfl
    | true =>
      obtain ⟨hk, -, hr, hpin⟩ := (s.uplink u).losEdged_keeps level s.clock.now
      rw [losEdge_monitored h.1 hl hm]
      exact h.handOver hk (UplinkState.losEdged_inputs _ hm hl (UplinkState.sound_iff.1 hsound).1) (hr.trans hpin.symm)

theorem lossQualifyExpiry_keeps {s : State} (u : Uplink) (h : s.RunningSound) :
    (lossQualifyExpiry u s).RunningSound := by
  obtain ⟨hsound, hraw⟩ := h.2 u
  cases ht : (s.uplink u).lossTimer with
  | none => rwa [lossQualifyExpiry_stopped ht]
  | some e =>
    rw [lossQualifyExpiry_running ht]
    exact (h.advanceTo e).handOver ⟨rfl, rfl, rfl, rfl⟩
      (UplinkState.lossQualified_inputs (by simp [ht]) (UplinkState.sound_iff.1 hsound).1) hraw

theorem lightQualifyExpiry_keeps {s : State} (u : Uplink) (h : s.RunningSound) :
    (lightQualifyExpiry u s).RunningSound := by
  obtain ⟨hsound, hraw⟩ := h.2 u
  cases ht : (s.uplink u).lightTimer with
  | none => rwa [lightQualifyExpiry_stopped ht]
  | some e =>
    rw [lightQualifyExpiry_running ht]
    exact (h.advanceTo e).handOver ⟨rfl, rfl, rfl, rfl⟩
      (UplinkState.lightQualified_inputs (by simp [ht]) (UplinkState.sound_iff.1 hsound).1) hraw

/-- R16: the judgement at the hold-off expiry gives an uplink whose health agrees with its defect set. -/
theorem UplinkState.holdOffJudgement_sound {linkUp : Bool} {x : UplinkState} (u : Uplink)
    (ht : x.holdOffTimer.isSome) (h : x.Sound linkUp) : (x.holdOffJudgement u).1.Sound linkUp := by
  obtain ⟨hin, hhealth⟩ := UplinkState.sound_iff.1 h
  have hh : x.health = .holdoff := hhealth.2.1.1 ht
  rw [UplinkState.healthSound_iff, hh] at hhealth
  obtain ⟨hmode, -, hwr⟩ := hhealth
  unfold UplinkState.holdOffJudgement
  split
  · rename_i hp
    exact UplinkState.sound_iff.2 ⟨hin, (UplinkState.healthSound_iff _).2 ⟨hmode, rfl, hwr, hp⟩⟩
  · rename_i hp
    exact UplinkState.sound_iff.2
      ⟨hin, (UplinkState.healthSound_iff _).2 ⟨hmode, rfl, hwr, (Bool.not_eq_true _).mp hp⟩⟩

/-- R18, R19: the return to UP from RESTORING does so too. -/
theorem UplinkState.restored_sound {linkUp : Bool} {x : UplinkState} (u : Uplink) (c : Cause)
    (hh : x.health = .restoring) (h : x.Sound linkUp) :
    ({ x with restoreTimer := none }.goUp u c).1.Sound linkUp := by
  obtain ⟨hin, hhealth⟩ := UplinkState.sound_iff.1 h
  rw [UplinkState.healthSound_iff, hh] at hhealth
  obtain ⟨hmode, hho, -, hp⟩ := hhealth
  exact UplinkState.sound_iff.2 ⟨hin, (UplinkState.healthSound_iff _).2 ⟨hmode, hho, rfl, hp⟩⟩

theorem holdOffExpiry_keeps {s : State} (u : Uplink) (h : s.RunningSound) : (holdOffExpiry u s).RunningSound := by
  unfold holdOffExpiry
  split
  · rename_i t ht
    obtain ⟨hsound, hraw⟩ := h.2 u
    refine (h.advanceTo t).settleHealth (UplinkState.holdOffJudgement_sound u (by simp [ht]) hsound) ?_
    unfold UplinkState.holdOffJudgement
    split <;> exact hraw
  · exact h

theorem waitToRestoreExpiry_keeps {s : State} (u : Uplink) (h : s.RunningSound) :
    (waitToRestoreExpiry u s).RunningSound := by
  unfold waitToRestoreExpiry
  split
  · rename_i t ht
    obtain ⟨hsound, hraw⟩ := h.2 u
    have hh : (s.uplink u).health = .restoring := hsound.2.2.1.2.2.1.1 (by simp [ht])
    exact (h.advanceTo t).settleHealth (UplinkState.restored_sound u .restored hh hsound) hraw
  · exact h

/-! ### Probing -/

theorem continuityDeadlineExpiry_keeps {s : State} (u : Uplink) (h : s.RunningSound) :
    (continuityDeadlineExpiry u s).RunningSound := by
  obtain ⟨hsound, hraw⟩ := h.2 u
  cases hd : (s.uplink u).deadline with
  | stopped => rwa [continuityDeadlineExpiry_stopped (.inl hd)]
  | suspended => rwa [continuityDeadlineExpiry_stopped (.inr hd)]
  | running e =>
    have hc : (s.uplink u).continuity = .established := by
      have hds := hsound.2.2.2.1
      rw [UplinkState.DeadlineSound, hd] at hds
      exact hds.1
    rw [continuityDeadlineExpiry_running hd]
    exact (h.advanceTo e).handOver ⟨rfl, rfl, rfl, rfl⟩
      (UplinkState.loseContinuity_inputs hc (UplinkState.sound_iff.1 hsound).1) hraw

/-- What the invariant reads is the same in two states. -/
def State.SameMonitor (s t : State) : Prop :=
  t.uplinks = s.uplinks ∧ t.fwd.linkUp = s.fwd.linkUp ∧ t.resetHeld = s.resetHeld

theorem State.RunningSound.of_sameMonitor {s t : State} (h : s.RunningSound) (hs : s.SameMonitor t) : t.RunningSound :=
  h.of_same hs.1 hs.2.1 hs.2.2

theorem State.SameMonitor.refl (s : State) : s.SameMonitor s := ⟨rfl, rfl, rfl⟩

theorem State.SameMonitor.trans {s t r : State} (h1 : s.SameMonitor t) (h2 : t.SameMonitor r) : s.SameMonitor r :=
  ⟨h2.1.trans h1.1, h2.2.1.trans h1.2.1, h2.2.2.trans h1.2.2⟩

theorem State.handProbe_sameMonitor (x : ProbeOut) (s : State) : s.SameMonitor (s.handProbe x) := by
  unfold State.handProbe
  split <;> exact .refl s

/-- R32: an emission counts itself and hands its record over. -/
theorem State.emit_keeps {s : State} (u : Uplink) (h : s.RunningSound) : (s.emit u).RunningSound := by
  obtain ⟨hsound, hraw⟩ := h.2 u
  obtain ⟨hin, hhealth⟩ := UplinkState.sound_iff.1 hsound
  cases hc : (s.uplink u).clock with
  | stopped => rwa [State.emit_stopped hc]
  | running start n =>
    have hrun : ({ s.uplink u with clock := .running start (n + 1) } : UplinkState).Sound s.fwd.linkUp :=
      UplinkState.sound_iff.2 ⟨UplinkState.runClock_sound start (n + 1) (by simp [hc]) hin, hhealth⟩
    rw [State.emit_running hc]
    refine State.RunningSound.of_sameMonitor ?_ (State.handProbe_sameMonitor _ _)
    exact h.setUplink hrun hraw

theorem State.emitAtStart_keeps {s : State} (u : Uplink) (h : s.RunningSound) : (s.emitAtStart u).RunningSound := by
  unfold State.emitAtStart
  split
  · exact State.emit_keeps u h
  · exact h

theorem probeEmission_keeps {s : State} (u : Uplink) (h : s.RunningSound) : (probeEmission u s).RunningSound := by
  unfold probeEmission
  split
  · exact State.emit_keeps u (h.advanceTo _)
  · exact h

/-- R34 to R38: a probe's arrival, which finds the link UP. -/
theorem State.probeArrival_keeps {s : State} (r : Record) (hl : s.fwd.linkUp = true) (h : s.RunningSound) :
    (s.probeArrival r).RunningSound := by
  obtain ⟨hsound, hraw⟩ := h.2 r.probeUplink
  obtain ⟨hin, -⟩ := UplinkState.sound_iff.1 hsound
  rw [hl] at hin
  refine h.handOver (UplinkState.arrive_keepsHealth _ _ _ _ _)
    (by rw [hl]; exact UplinkState.arrive_inputs _ _ _ _ hin) ?_
  obtain e | ⟨-, e | ⟨-, e | ⟨g, e⟩⟩⟩ :=
    (s.uplink r.probeUplink).arrive_cases r.probeSeq r.probeRdi r.bodyCheck s.clock.now <;> rw [e] <;> exact hraw

/-! ### The forwarding port and the lookup engine -/

/-- R42, R140: the link coming UP resumes every suspended deadline. -/
theorem State.linkComesUp_keeps {s : State} (k : InKind) (hl : s.fwd.linkUp = false) (h : s.RunningSound) :
    (s.linkComesUp k).RunningSound := by
  refine ⟨h.1, fun u => ?_⟩
  obtain ⟨hsound, hraw⟩ := h.2 u
  rw [hl] at hsound
  have e : (s.linkComesUp k).uplink u = (s.uplink u).resumeDeadline s.clock.now := vector_get_ofFn _ u
  rw [e]
  refine ⟨UplinkState.resumeDeadline_sound _ hsound, ?_⟩
  unfold UplinkState.resumeDeadline
  split <;> exact hraw

theorem State.RunningSound.restartSilence {s : State} (h : s.RunningSound) : s.restartSilence.RunningSound := h

/-- R139: a valid record finds the link UP, or brings it UP. -/
theorem State.acceptRecord_keeps {s : State} (k : InKind) (h : s.RunningSound) :
    (s.acceptRecord k).RunningSound ∧ (s.acceptRecord k).fwd.linkUp = true := by
  unfold State.acceptRecord
  cases hl : s.fwd.linkUp with
  | true =>
    simp only [if_true]
    exact ⟨h.restartSilence, hl⟩
  | false =>
    simp only [Bool.false_eq_true, if_false]
    exact ⟨(State.linkComesUp_keeps k hl h).restartSilence, rfl⟩

theorem State.handRefusal_sameMonitor (a : Answer) (s : State) : s.SameMonitor (s.handRefusal a) := by
  unfold State.handRefusal
  split
  · refine ⟨rfl, ?_, rfl⟩
    unfold FwdState.placeRefusal
    split <;> rfl
  · exact .refl s

theorem State.handSignal_sameMonitor (x : Signal) (s : State) : s.SameMonitor (s.handSignal x) := by
  unfold State.handSignal
  split <;> exact .refl s

theorem State.evaluatePause_sameMonitor (l : Lane) (s : State) : s.SameMonitor (s.evaluatePause l) := by
  unfold State.evaluatePause
  split
  · exact State.handSignal_sameMonitor _ (s.setLane l _)
  · exact .refl s

theorem State.evaluateResume_sameMonitor (l : Lane) (s : State) : s.SameMonitor (s.evaluateResume l) := by
  unfold State.evaluateResume
  split
  · exact State.handSignal_sameMonitor _ (s.setLane l _)
  · exact .refl s

theorem State.laneArrival_sameMonitor (q : Request) (s : State) : s.SameMonitor (s.laneArrival q) := by
  unfold State.laneArrival
  simp only
  split
  · exact State.handRefusal_sameMonitor _ s
  · split
    · split <;> exact State.handRefusal_sameMonitor _ s
    · exact State.evaluatePause_sameMonitor q.lane (s.setLane q.lane _)

theorem recordArrival_keeps {s : State} (r : Record) (h : s.RunningSound) : (recordArrival r s).RunningSound := by
  unfold recordArrival
  split
  · rename_i k hk
    obtain ⟨ha, hl⟩ := State.acceptRecord_keeps k h
    cases k with
    | sync => exact ha
    | lookupReq => exact ha.of_sameMonitor (State.laneArrival_sameMonitor _ _)
    | probeIn => exact State.probeArrival_keeps r hl ha
  · exact h

/-- R41, R141: the link going DOWN suspends the deadlines that run. -/
theorem silenceExpiry_keeps {s : State} (h : s.RunningSound) : (silenceExpiry s).RunningSound := by
  cases ht : s.fwd.silenceTimer with
  | none => simpa only [silenceExpiry, ht] using h
  | some t =>
    have hu : ∀ u, (silenceExpiry s).uplink u = (s.uplink u).suspendDeadline := fun u => by
      simp only [silenceExpiry, ht]
      exact vector_get_ofFn _ u
    have hl : (silenceExpiry s).fwd.linkUp = false := by simp only [silenceExpiry, ht]; rfl
    have hr : (silenceExpiry s).resetHeld = s.resetHeld := by simp only [silenceExpiry, ht]; rfl
    refine ⟨hr.trans h.1, fun u => ?_⟩
    obtain ⟨hsound, hraw⟩ := h.2 u
    rw [hu, hl]
    refine ⟨UplinkState.suspendDeadline_sound hsound, ?_⟩
    unfold UplinkState.suspendDeadline
    split <;> exact hraw

theorem recordTime_sameMonitor (s : State) : s.SameMonitor (recordTime s) := by
  unfold recordTime
  repeat' split
  all_goals exact .refl s

theorem State.noteUnplanned_sameMonitor (q : Request) (s : State) : s.SameMonitor (s.noteUnplanned q) := by
  unfold State.noteUnplanned
  repeat' split
  all_goals exact .refl s

theorem State.serve_sameMonitor (l : Lane) (q : Request) (rest : List Request) (s : State) :
    s.SameMonitor (s.serve l q rest) :=
  (State.evaluateResume_sameMonitor l
    { s.setLane l { s.lane l with queue := rest } with
      lookup := { (s.setLane l { s.lane l with queue := rest }).lookup with lastServed := l } }).trans
    (State.noteUnplanned_sameMonitor q _)

theorem serviceBegin_sameMonitor (s : State) : s.SameMonitor (serviceBegin s) := by
  unfold serviceBegin
  repeat' split
  · exact .refl s
  · exact .refl s
  · exact .refl s
  · exact State.serve_sameMonitor _ _ _ s

/-! ### Sweep and events -/

theorem passBegin_sameMonitor (s : State) : s.SameMonitor (passBegin s) := by
  unfold passBegin
  repeat' split
  all_goals exact .refl s

theorem State.raiseAll_sameMonitor (es : List Event) (s : State) : s.SameMonitor (s.raiseAll es) := by
  rw [State.raiseAll_frame]
  exact .refl s

theorem State.completePass_sameMonitor (p : PassRecord) (s : State) : s.SameMonitor (s.completePass p) := by
  have hreplan : ∀ (b : Bool) (t : State), t.SameMonitor (t.handReplan b).1 := fun b t => by
    unfold State.handReplan
    split <;> exact .refl t
  have hclose : ∀ t : State, t.SameMonitor t.closeEpisode.1 := fun t => by
    unfold State.closeEpisode
    repeat' split
    all_goals exact .refl t
  unfold State.completePass
  simp only
  refine State.SameMonitor.trans ?_ (State.raiseAll_sameMonitor _ _)
  refine State.SameMonitor.trans ?_ (hclose _)
  refine State.SameMonitor.trans ?_ (hreplan _ _)
  exact .refl s

theorem State.releaseReadGroup_sameMonitor (g : Group) (s : State) : s.SameMonitor (s.releaseReadGroup g) := by
  unfold State.releaseReadGroup
  repeat' split
  all_goals exact .refl s

theorem passComplete_sameMonitor (s : State) : s.SameMonitor (passComplete s) := by
  unfold passComplete
  split
  · exact (State.completePass_sameMonitor _ s).trans (State.releaseReadGroup_sameMonitor _ _)
  · exact .refl s

theorem lingerExpiry_sameMonitor (s : State) : s.SameMonitor (lingerExpiry s) := by
  unfold lingerExpiry
  split <;> exact .refl s

/-! ### The commands -/

/-- R170: SET-UPLINK keeps the invariant. -/
theorem doSetUplink_keeps {s : State} (f : UplinkFields) (h : s.RunningSound) : (doSetUplink f s).1.RunningSound := by
  unfold doSetUplink
  split
  · exact h
  · rename_i u new hgood
    obtain ⟨hsound, hraw⟩ := h.2 u
    obtain ⟨-, hpin, hraw', -⟩ := (s.uplink u).applySettings_leaves new s.clock.now s.fwd.linkUp
    have hover := h.handOver ((s.uplink u).applySettings_keepsHealth new s.clock.now s.fwd.linkUp)
      (UplinkState.applySettings_inputs s.clock.now (judgeSettings_inRange hgood) (UplinkState.sound_iff.1 hsound).1)
      ((hraw'.trans hraw).trans hpin.symm)
    simp only
    split
    · exact State.emitAtStart_keeps u hover
    · exact hover

/-- R10: the START check of an uplink that has just entered START gives one whose health agrees. -/
theorem UplinkState.startCheck_sound {linkUp : Bool} {x : UplinkState} (u : Uplink) (now : Nat)
    (hin : x.InputsSound linkUp) (hm : x.admin ≠ .disabled) (hh : x.health = .start) (hho : x.holdOffTimer = none)
    (hwr : x.restoreTimer = none) : (x.startCheck u now).1.Sound linkUp := by
  unfold UplinkState.startCheck UplinkState.restore UplinkState.goUp
  rw [UplinkState.sound_iff]
  split
  · rename_i hp
    refine ⟨hin, (UplinkState.healthSound_iff _).2 ?_⟩
    rw [hh]
    exact ⟨hm, hho, hwr, hp⟩
  · rename_i hp
    have hp : x.defects.present = false := by simpa using hp
    split
    · exact ⟨hin, (UplinkState.healthSound_iff _).2 ⟨hm, hho, hwr, hp⟩⟩
    · exact ⟨hin, (UplinkState.healthSound_iff _).2 ⟨hm, hho, rfl, hp⟩⟩

/-- R10: the enabling step keeps the invariant. -/
theorem State.enableUplink_keeps {s : State} (u : Uplink) (m : AdminMode) (hx : (s.uplink u).admin = .disabled)
    (hm : m ≠ .disabled) (h : s.RunningSound) : (s.enableUplink u m).RunningSound := by
  obtain ⟨hsound, hraw⟩ := h.2 u
  obtain ⟨hin, hhealth⟩ := UplinkState.sound_iff.1 hsound
  have hidle : (s.uplink u).health = .idle := hhealth.1.2 hx
  rw [UplinkState.healthSound_iff, hidle] at hhealth
  obtain ⟨-, hho, hwr⟩ := hhealth
  obtain ⟨hadmin, hstart, hho', hwr', hraw', hpin⟩ := (s.uplink u).enable_fields m s.clock.now
  obtain ⟨y, hy⟩ : ∃ y, y = (s.uplink u).latch ((s.uplink u).enable m s.clock.now) := ⟨_, rfl⟩
  have hyin : y.InputsSound s.fwd.linkUp := by
    rw [hy]
    exact UplinkState.latch_inputs.2 (UplinkState.enable_inputs m s.clock.now hx hm hin)
  have hyraw : y.rawLos = y.losPin := by rw [hy]; exact (hraw'.trans hraw).trans hpin.symm
  obtain ⟨hh, wr, e⟩ := y.startCheck_shape u s.clock.now
  have hset : (s.settleHealth u (y.startCheck u s.clock.now) s).RunningSound :=
    h.settleHealth (UplinkState.startCheck_sound u _ hyin (by rw [hy]; exact hadmin.symm ▸ hm)
      (by rw [hy]; exact hstart) (by rw [hy]; exact hho'.trans hho) (by rw [hy]; exact hwr'.trans hwr))
      (by rw [e]; exact hyraw)
  unfold State.enableUplink
  simp only [← hy]
  split
  · exact State.emitAtStart_keeps u hset
  · exact hset

/-- R9 to R11: SET-ADMIN keeps the invariant. -/
theorem State.setAdmin_keeps {s : State} (u : Uplink) (m : AdminMode) (h : s.RunningSound) :
    (s.setAdmin u m).RunningSound := by
  obtain ⟨hsound, hraw⟩ := h.2 u
  unfold State.setAdmin
  simp only
  split
  · exact h
  · split
    · refine h.settleHealth (UplinkState.disable_sound (UplinkState.sound_iff.1 hsound).1) ?_
      unfold UplinkState.disable
      split <;> exact hraw
    · rename_i hm
      split
      · rename_i hx
        exact State.enableUplink_keeps u m hx hm h
      · rename_i hx
        exact h.settleHealth (UplinkState.exchangeMode_sound m hx hm hsound) hraw

theorem doSetAdmin_keeps {s : State} (b mode : Byte) (h : s.RunningSound) : (doSetAdmin b mode s).1.RunningSound := by
  unfold doSetAdmin
  split
  · exact h
  · split
    · exact h
    · exact State.setAdmin_keeps _ _ h

theorem doForceRestore_keeps {s : State} (b : Byte) (h : s.RunningSound) : (doForceRestore b s).1.RunningSound := by
  unfold doForceRestore
  split
  · exact h
  · rename_i u _
    obtain ⟨hsound, hraw⟩ := h.2 u
    split
    · rename_i hh
      exact h.settleHealth (UplinkState.restored_sound u .forced hh hsound) hraw
    · exact h

theorem doClearLatch_keeps {s : State} (b : Byte) (h : s.RunningSound) : (doClearLatch b s).1.RunningSound := by
  unfold doClearLatch
  split
  · exact h
  · rename_i u _
    obtain ⟨hsound, hraw⟩ := h.2 u
    exact h.setUplink (x := (s.uplink u).clearLatches) hsound hraw

theorem doSetConduit_keeps {s : State} (b trip : Byte) (h : s.RunningSound) :
    (doSetConduit b trip s).1.RunningSound := by
  unfold doSetConduit
  split
  · exact h
  · refine h.of_flags (fun v => ?_) ?_ ?_
    · exact State.evaluateUsability_uplink _ _ (s.setConduit _ _) s v
    · simp
    · simp only
      rw [State.evaluateUsability_frame]
      rfl

theorem State.deliver_sameMonitor (p : Group → Bool) (f : DirtyFlags) (s : State) : s.SameMonitor (s.deliver p f) :=
  ⟨State.deliver_uplinks _ _ _, by rw [State.deliver_fwd], State.deliver_resetHeld _ _ _⟩

/-- The commands on plans, groups and ports leave the uplinks, the link and RESET alone. -/
theorem takeReadGroup_sameMonitor (tag : Byte) (g : Half) (s : State) : s.SameMonitor (takeReadGroup tag g s) := by
  unfold takeReadGroup
  repeat' split
  all_goals exact .refl s

theorem doWritePlan_sameMonitor (f : PlanFields) (s : State) : s.SameMonitor (doWritePlan f s).1 := by
  unfold doWritePlan
  repeat' split
  all_goals exact .refl s

theorem doClearPlan_sameMonitor (g : Half) (s : State) : s.SameMonitor (doClearPlan g s).1 := by
  unfold doClearPlan
  repeat' split
  all_goals exact .refl s

theorem doCopyActive_sameMonitor (s : State) : s.SameMonitor (doCopyActive s).1 := by
  unfold doCopyActive
  split <;> exact .refl s

theorem doReadPlan_sameMonitor (g : Half) (b : Byte) (s : State) : s.SameMonitor (doReadPlan g b s).1 := by
  unfold doReadPlan
  repeat' split
  all_goals exact .refl s

theorem doSwap_sameMonitor (s : State) : s.SameMonitor (doSwap s).1 := by
  unfold doSwap
  split
  · exact .refl s
  · exact State.deliver_sameMonitor _ _ { s with plans := { s.plans with swapInFlight := true } }

theorem doRebalance_sameMonitor (t : RebalanceTarget) (s : State) : s.SameMonitor (doRebalance t s).1 := by
  unfold doRebalance
  repeat' split
  · exact .refl s
  · exact State.deliver_sameMonitor _ _ s
  · exact State.deliver_sameMonitor _ _ s

theorem doSetLane_sameMonitor (l e p r : Byte) (s : State) : s.SameMonitor (doSetLane l e p r s).1 := by
  unfold doSetLane State.evaluateMarks
  repeat' split
  · exact .refl s
  · exact .refl s
  · simp only
    split
    · exact State.evaluateResume_sameMonitor _ (s.setLane _ _)
    · exact State.evaluatePause_sameMonitor _ (s.setLane _ _)

theorem doSetAlert_sameMonitor (t : Byte) (l : Half) (u : Byte) (s : State) : s.SameMonitor (doSetAlert t l u s).1 := by
  unfold doSetAlert
  split <;> exact .refl s

/-- R165: taking a command keeps the invariant. -/
theorem takeCommand_keeps {s : State} (tag : Byte) (c : Command) (h : s.RunningSound) :
    (takeCommand tag c s).RunningSound := by
  cases c with
  | identify => exact h
  | getStatus => exact h
  | setTime t => exact h
  | setUplink f => exact (doSetUplink_keeps f h).reply _ _ _
  | getUplink u =>
    refine State.RunningSound.reply ?_ _ _ _
    unfold doGetUplink
    split <;> exact h
  | setAdmin u m => exact (doSetAdmin_keeps u m h).reply _ _ _
  | forceRestore u => exact (doForceRestore_keeps u h).reply _ _ _
  | clearLatch u => exact (doClearLatch_keeps u h).reply _ _ _
  | setConduit d t => exact (doSetConduit_keeps d t h).reply _ _ _
  | writePlan f => exact (h.of_sameMonitor (doWritePlan_sameMonitor f s)).reply _ _ _
  | clearPlan g => exact (h.of_sameMonitor (doClearPlan_sameMonitor g s)).reply _ _ _
  | copyActive => exact (h.of_sameMonitor (doCopyActive_sameMonitor s)).reply _ _ _
  | readPlan g b => exact (h.of_sameMonitor (doReadPlan_sameMonitor g b s)).reply _ _ _
  | swap => exact (h.of_sameMonitor (doSwap_sameMonitor s)).reply _ _ _
  | readGroup g => exact h.of_sameMonitor (takeReadGroup_sameMonitor tag g s)
  | rebalance t => exact (h.of_sameMonitor (doRebalance_sameMonitor t s)).reply _ _ _
  | setLane l e p r => exact (h.of_sameMonitor (doSetLane_sameMonitor l e p r s)).reply _ _ _
  | setFwdlink t => exact h
  | setAlert t l u => exact (h.of_sameMonitor (doSetAlert_sameMonitor t l u s)).reply _ _ _
  | fetchEvents n => exact h
  | reset => exact h

/-! ### The control port -/

theorem State.takeNext_keeps {s : State} (h : s.RunningSound) : s.takeNext.RunningSound := by
  unfold State.takeNext
  split
  · split
    · exact h
    · exact takeCommand_keeps _ _ h
  · exact h

theorem receiveCommand_keeps {s : State} (tag : Byte) (c : Command) (h : s.RunningSound) :
    (receiveCommand tag c s).RunningSound := by
  unfold receiveCommand
  split
  · exact State.takeNext_keeps h
  · exact h

theorem judgeFrame_keeps {s : State} (frame : List Byte) (h : s.RunningSound) : (judgeFrame frame s).RunningSound := by
  have hwhole : ∀ type tag payload, (receiveWhole type tag payload s.hunt).RunningSound := fun type tag payload => by
    unfold receiveWhole
    split
    · exact h
    · exact h
    · exact receiveCommand_keeps _ _ h
  unfold judgeFrame
  simp only
  repeat' split
  · exact hwhole _ _ _
  · exact h
  · exact h
  · exact h

/-- R161: a byte taken keeps the invariant. -/
theorem takeByte_keeps {s : State} (b : Byte) (h : s.RunningSound) : (takeByte b s).RunningSound := by
  unfold takeByte
  cases s.control.rx with
  | hunting => simp only; split <;> exact h
  | length => simp only; split <;> [exact h; split <;> exact h]
  | body => exact h
  | check => simp only; split <;> [exact h; exact judgeFrame_keeps _ h]

theorem takeBytes_keeps {s : State} (bs : List Byte) (h : s.RunningSound) : (takeBytes bs s).RunningSound := by
  unfold takeBytes
  induction bs generalizing s with
  | nil => exact h
  | cons b bs ih => exact ih (takeByte_keeps b h)

/-! ### Reset -/

theorem State.uplink_toReset (s : State) (held : Bool) (u : Uplink) :
    (s.toReset held).uplink u = (s.uplink u).toReset held := vector_get_ofFn _ u

/-- R24, R50, R62: an uplink at its reset values is sound. -/
theorem UplinkState.reset_sound (pin raw : Bool) : (UplinkState.reset pin raw).Sound false := by
  refine ⟨?_, ⟨by simp [UplinkState.reset], by simp [UplinkState.reset], fun _ => ⟨rfl, rfl, rfl⟩⟩,
    (UplinkState.healthSound_iff _).2 ⟨rfl, rfl, rfl⟩, by simp [UplinkState.reset, UplinkState.DeadlineSound],
    UplinkState.probeSound_iff.2 ⟨⟨?_, ?_, fun _ => ⟨rfl, rfl, rfl, rfl, rfl⟩, by simp [UplinkState.reset],
      by simp [UplinkState.reset]⟩, UplinkState.flagAgrees_of_empty rfl rfl⟩⟩
  · simp [UplinkState.reset, Settings.reset, Settings.InRange]
  · exact iff_of_true rfl rfl
  · exact iff_of_true rfl rfl

/-- R174: what RESET leaves is at its reset values for good. -/
theorem State.toReset_held (s : State) : (s.toReset true).toReset true = s.toReset true := by
  have h : (Vector.ofFn fun u => ((s.toReset true).uplink u).toReset true) = (s.toReset true).uplinks :=
    vector_ext_get fun u => by
      rw [vector_get_ofFn, State.uplink_toReset]
      exact (State.uplink_toReset s true u).symm
  unfold State.toReset at h ⊢
  simp only at h
  simp only [h]
  rfl

end Sys2Proof.Machine
end

section
/-! The uplinks' invariant over every step (O53): a running part by the rules of the layer above, a held part by its
reset values. -/

namespace Sys2Proof.Machine

/-! ### A part that RESET holds -/

/-- R174: an uplink of a held part is at its reset values. -/
theorem UplinkState.eq_toReset_of_held {s : State} (h : s.toReset true = s) (u : Uplink) :
    (s.uplink u).toReset true = s.uplink u := by
  rw [← State.uplink_toReset, h]

/-- R174: the link of a held part is DOWN. -/
theorem State.linkUp_of_held {s : State} (h : s.toReset true = s) : s.fwd.linkUp = false := by
  rw [← h]
  rfl

/-- A level of an input recorded while RESET holds the part (log entry 21). -/
theorem MonitorSound.pin_held {s : State} (u : Uplink) (level : Bool) (hr : s.resetHeld = true) (h : MonitorSound s) :
    MonitorSound (s.setUplink u { s.uplink u with losPin := level }) := by
  obtain ⟨hs, -, hheld⟩ := h
  have hat := hheld hr
  refine ⟨fun v => ?_, fun hf => absurd (hr.symm.trans hf) (by simp), fun _ => ?_⟩
  · rw [State.uplink_setUplink]
    split
    · exact hs u
    · exact hs v
  · obtain ⟨t, ht⟩ : ∃ t, t = s.setUplink u { s.uplink u with losPin := level } := ⟨_, rfl⟩
    have hups : (t.toReset true).uplinks = t.uplinks := State.uplinks_ext fun v => by
      rw [State.uplink_toReset, ht, State.uplink_setUplink]
      split
      · have hx := UplinkState.eq_toReset_of_held hat u
        calc ({ s.uplink u with losPin := level } : UplinkState).toReset true
            = { (s.uplink u).toReset true with losPin := level } := rfl
          _ = { s.uplink u with losPin := level } := by rw [hx]
      · exact UplinkState.eq_toReset_of_held hat v
    rw [← ht]
    calc t.toReset true
        = { s.toReset true with uplinks := (t.toReset true).uplinks } := by rw [ht]; rfl
      _ = { s with uplinks := t.uplinks } := by rw [hat, hups]
      _ = t := by rw [ht]; rfl

/-- R174: the release lets raw LOS follow the inputs of a part at its reset values. -/
theorem MonitorSound.released {s : State} (hr : s.resetHeld = true) (h : MonitorSound s) :
    s.releaseReset.RunningSound := by
  have hat := h.2.2 hr
  refine ⟨rfl, fun u => ?_⟩
  have hu : s.releaseReset.uplink u = { s.uplink u with rawLos := (s.uplink u).losPin } := vector_get_ofFn _ u
  have hl : s.releaseReset.fwd.linkUp = false := State.linkUp_of_held (s := s) hat
  rw [hu, hl, ← UplinkState.eq_toReset_of_held hat u]
  exact ⟨UplinkState.reset_sound _ _, rfl⟩

/-- R174: the part that a reset leaves. -/
theorem State.toReset_monitorSound (s : State) (held : Bool) : MonitorSound (s.toReset held) := by
  refine ⟨fun u => ?_, fun hr u => ?_, fun hr => ?_⟩
  · rw [State.uplink_toReset]
    exact UplinkState.reset_sound _ _
  · have hheld : held = false := hr
    rw [State.uplink_toReset, hheld]
    rfl
  · have hheld : held = true := hr
    rw [hheld]
    exact s.toReset_held

/-- R166, R173: a reply's end resets the part or lets the next command be taken. -/
theorem replySent_keeps {s : State} (h : s.RunningSound) : (replySent s).RunningSound := by
  unfold replySent
  split
  · exact h
  · simp only
    split
    · exact (State.runningSound_iff rfl).2 (State.toReset_monitorSound _ false)
    · exact State.takeNext_keeps h

/-! ### The step -/

/-- The commands still to come are no part of the invariant. -/
theorem MonitorSound.pending {s : State} (rest : List Instr) (h : MonitorSound s) :
    MonitorSound { s with pending := rest } := by
  obtain ⟨hs, hraw, hheld⟩ := h
  refine ⟨hs, hraw, fun hr => ?_⟩
  calc ({ s with pending := rest } : State).toReset true
      = { s.toReset true with pending := rest } := rfl
    _ = { s with pending := rest } := by rw [hheld hr]

/-- A rule that keeps the invariant of a running part keeps it behind the running gate. -/
theorem whenRunning_keeps {f : State → State} (hf : ∀ {s : State}, s.RunningSound → (f s).RunningSound) {s t : State}
    (h : MonitorSound s) (ht : whenRunning s f = .next t) : MonitorSound t := by
  cases hr : s.resetHeld with
  | true =>
    rw [whenRunning_of_held hr] at ht
    cases ht
    exact h
  | false =>
    rw [whenRunning_of_released hr] at ht
    cases ht
    have hrun := hf ((State.runningSound_iff hr).2 h)
    exact (State.runningSound_iff hrun.1).1 hrun

/-- An edge of a loss-of-light input, whether RESET holds the part or not. -/
theorem losEdge_monitorSound {s : State} (u : Uplink) (level : Bool) (h : MonitorSound s) :
    MonitorSound (losEdge u level s) := by
  cases hr : s.resetHeld with
  | true =>
    rw [losEdge_pin (.inl hr)]
    exact h.pin_held u level hr
  | false =>
    have hrun := losEdge_keeps u level ((State.runningSound_iff hr).2 h)
    exact (State.runningSound_iff hrun.1).1 hrun

/-- Every row of the table keeps the uplinks' invariant. -/
theorem exec_keeps_monitorSound (i : Instr) {s t : State} (h : MonitorSound s) (ht : exec i s = .next t) :
    MonitorSound t := by
  have command : ∀ tag c, whenRunning s (receiveCommand tag c) = .next t → MonitorSound t := fun tag c =>
    whenRunning_keeps (receiveCommand_keeps tag c) h
  cases i with
  | losAssert u => cases ht; exact losEdge_monitorSound u true h
  | losDeassert u => cases ht; exact losEdge_monitorSound u false h
  | lossQualifyExpiry u => exact whenRunning_keeps (lossQualifyExpiry_keeps u) h ht
  | lightQualifyExpiry u => exact whenRunning_keeps (lightQualifyExpiry_keeps u) h ht
  | holdOffExpiry u => exact whenRunning_keeps (holdOffExpiry_keeps u) h ht
  | waitToRestoreExpiry u => exact whenRunning_keeps (waitToRestoreExpiry_keeps u) h ht
  | probeEmission u => exact whenRunning_keeps (probeEmission_keeps u) h ht
  | continuityDeadlineExpiry u => exact whenRunning_keeps (continuityDeadlineExpiry_keeps u) h ht
  | probeInReceived r => exact whenRunning_keeps (recordArrival_keeps r) h ht
  | syncReceived r => exact whenRunning_keeps (recordArrival_keeps r) h ht
  | lookupReqReceived r => exact whenRunning_keeps (recordArrival_keeps r) h ht
  | faultyRecordReceived r =>
    cases r with
    | some r => exact whenRunning_keeps (recordArrival_keeps r) h ht
    | none => exact whenRunning_keeps (f := State.countHeaderError) (fun hs => hs) h ht
  | silenceExpiry => exact whenRunning_keeps silenceExpiry_keeps h ht
  | serviceBegin => exact whenRunning_keeps (fun hs => hs.of_sameMonitor (serviceBegin_sameMonitor _)) h ht
  | recordTime => exact whenRunning_keeps (fun hs => hs.of_sameMonitor (recordTime_sameMonitor _)) h ht
  | passBegin => exact whenRunning_keeps (fun hs => hs.of_sameMonitor (passBegin_sameMonitor _)) h ht
  | passComplete => exact whenRunning_keeps (fun hs => hs.of_sameMonitor (passComplete_sameMonitor _)) h ht
  | lingerExpiry => exact whenRunning_keeps (fun hs => hs.of_sameMonitor (lingerExpiry_sameMonitor _)) h ht
  | frameReceived body check => exact whenRunning_keeps (takeBytes_keeps _) h ht
  | replySent => exact whenRunning_keeps replySent_keeps h ht
  | identify tag => exact command tag .identify ht
  | getStatus tag => exact command tag .getStatus ht
  | setTime tag n => exact command tag (.setTime n) ht
  | setUplink tag f => exact command tag (.setUplink f) ht
  | getUplink tag u => exact command tag (.getUplink u) ht
  | setAdmin tag u m => exact command tag (.setAdmin u m) ht
  | forceRestore tag u => exact command tag (.forceRestore u) ht
  | clearLatch tag u => exact command tag (.clearLatch u) ht
  | setConduit tag c n => exact command tag (.setConduit c n) ht
  | writePlan tag f => exact command tag (.writePlan f) ht
  | clearPlan tag g => exact command tag (.clearPlan g) ht
  | copyActive tag => exact command tag .copyActive ht
  | readPlan tag g b => exact command tag (.readPlan g b) ht
  | swap tag => exact command tag .swap ht
  | readGroup tag g => exact command tag (.readGroup g) ht
  | rebalance tag x => exact command tag (.rebalance x) ht
  | setLane tag l e p r => exact command tag (.setLane l e p r) ht
  | setFwdlink tag n => exact command tag (.setFwdlink n) ht
  | setAlert tag n l u => exact command tag (.setAlert n l u) ht
  | fetchEvents tag n => exact command tag (.fetchEvents n) ht
  | reset tag => exact command tag .reset ht
  | resetInputAssert => cases ht; exact State.toReset_monitorSound _ true
  | resetInputRelease =>
    cases ht
    cases hr : s.resetHeld with
    | true => simpa [hr] using (State.runningSound_iff rfl).1 (h.released hr)
    | false => simpa [hr] using h
  | controlByteTaken b => exact whenRunning_keeps (takeByte_keeps b) h ht

/-- Settles O53: each row of the table, and the tick of an empty queue. -/
theorem stepsKeepUplinksSound : Obligations.StepsKeepUplinksSound := by
  intro s t h ht
  unfold step at ht
  split at ht
  · cases ht
    unfold State.tick
    split
    · exact h
    · rename_i hr
      have hr : s.resetHeld = false := by simpa using hr
      have hrun : s.RunningSound := (State.runningSound_iff hr).2 h
      exact (State.runningSound_iff (s := { s with clock := s.clock.advance 1 }) hr).1 hrun
  · exact exec_keeps_monitorSound _ (h.pending _) ht

end Sys2Proof.Machine
end

section
/-! The RESET input (O3), the edges and expiries of the filter and of the judgement timers (O6, O7, O9), the loss of
continuity (O17), and the state after reset (O52). -/

namespace Sys2Proof.Machine

/-! ### RESET -/

/-- R173, R174: the part after the assertion of the RESET input, block by block but for the line's last reply. -/
theorem execResetInputAssert_eq (s : State) :
    exec .resetInputAssert s = .next { s.toReset true with
      control := ControlState.reset s.finishResetReply.control.ctx } := by
  show Host.Outcome.next (s.finishResetReply.toReset true) = _
  rw [State.finishResetReply_frame]
  rfl

/-- Settles O3. -/
theorem resetInputResetsEveryBlock : Obligations.ResetInputResetsEveryBlock := by
  intro s
  refine ⟨⟨_, execResetInputAssert_eq s, rfl, rfl, rfl, fun u => State.uplink_toReset s true u,
    fun c => vector_get_replicate _ c, rfl, rfl, fun b g => ?_, fun g => ⟨rfl, rfl, rfl, fun bank b => ?_⟩, rfl,
    fun l => vector_get_replicate _ l, rfl, rfl, rfl, rfl, rfl, fun tag r rest hin hreps => ?_, fun h => ?_⟩,
    fun hr => ⟨s.releaseReset, ?_, fun u => vector_get_ofFn _ u, rfl⟩⟩
  · cases b <;> rfl
  · cases bank <;> exact vector_get_replicate _ b
  · rw [State.finishResetReply_reset hin hreps]
    rfl
  · rcases h with h | h
    · have hsame : s.finishResetReply = s := by
        unfold State.finishResetReply
        rw [h]
        split
        · rename_i heq
          cases heq
        · rfl
      rw [hsame]
      rfl
    · rw [State.finishResetReply_other h]
      rfl
  · show Host.Outcome.next (if s.resetHeld then s.releaseReset else s) = _
    rw [if_pos hr]

/-! ### The filter (R2 to R5) -/

/-- R22: of the latches a change of the filter can set LOS-SEEN alone. -/
theorem UplinkState.latch_filter {old x : UplinkState} (hl : x.latches = old.latches)
    (hc : x.continuity = old.continuity) (hr : x.rdi = old.rdi) (hd : x.degraded = old.degraded) :
    old.latch x = { x with latches := { old.latches with
      los := old.latches.los || (!old.qualLos && x.qualLos) } } := by
  have h1 : ∀ b : Bool, (!b && b) = false := by decide
  have h2 : ∀ c : Continuity, (decide (c = .established) && decide (c = .lost)) = false := by
    intro c; cases c <;> rfl
  simp only [UplinkState.latch, hl, hc, hr, hd, h1, h2, Bool.or_false]

/-- R2 in one record. -/
theorem UplinkState.losEdged_assert (x : UplinkState) (now : Nat) :
    x.losEdged true now = { x with
      losPin := true, rawLos := true, lightTimer := none,
      qualLos := x.qualLos || decide (x.settings.lossQualify = 0),
      lossTimer := if x.qualLos = false ∧ x.settings.lossQualify ≠ 0 then some (now + x.settings.lossQualify)
        else x.lossTimer } := by
  unfold UplinkState.losEdged UplinkState.losAsserted
  cases hq : x.qualLos <;> by_cases h0 : x.settings.lossQualify = 0 <;> simp [h0]

/-- R3 in one record. -/
theorem UplinkState.losEdged_deassert (x : UplinkState) (now : Nat) :
    x.losEdged false now = { x with
      losPin := false, rawLos := false, lossTimer := none,
      qualLos := x.qualLos && decide (x.settings.lightQualify ≠ 0),
      lightTimer := if x.qualLos = true ∧ x.settings.lightQualify ≠ 0 then
        some (now + x.settings.lightQualify * 1000) else x.lightTimer } := by
  unfold UplinkState.losEdged UplinkState.losDeasserted
  cases hq : x.qualLos <;> by_cases h0 : x.settings.lightQualify = 0 <;> simp [h0, ms]

/-- R2, R22: an asserting edge with the latch it sets. -/
theorem UplinkState.latch_losEdged_assert (x : UplinkState) (now : Nat) :
    x.latch (x.losEdged true now) = { x with
      losPin := true, rawLos := true, lightTimer := none,
      qualLos := x.qualLos || decide (x.settings.lossQualify = 0),
      lossTimer := if x.qualLos = false ∧ x.settings.lossQualify ≠ 0 then some (now + x.settings.lossQualify)
        else x.lossTimer,
      latches := { x.latches with
        los := x.latches.los || (!x.qualLos && decide (x.settings.lossQualify = 0)) } } := by
  have hseen : ∀ q z : Bool, (!q && (q || z)) = (!q && z) := by decide
  rw [UplinkState.losEdged_assert, UplinkState.latch_filter (old := x) (x := { x with
    losPin := true, rawLos := true, lightTimer := none, qualLos := _, lossTimer := _ }) rfl rfl rfl rfl]
  simp only [hseen]

/-- R3, R22: a deasserting edge sets no latch. -/
theorem UplinkState.latch_losEdged_deassert (x : UplinkState) (now : Nat) :
    x.latch (x.losEdged false now) = { x with
      losPin := false, rawLos := false, lossTimer := none,
      qualLos := x.qualLos && decide (x.settings.lightQualify ≠ 0),
      lightTimer := if x.qualLos = true ∧ x.settings.lightQualify ≠ 0 then
        some (now + x.settings.lightQualify * 1000) else x.lightTimer } := by
  have hkept : ∀ l q z : Bool, (l || (!q && (q && z))) = l := by decide
  rw [UplinkState.losEdged_deassert, UplinkState.latch_filter (old := x) (x := { x with
    losPin := false, rawLos := false, lossTimer := none, qualLos := _, lightTimer := _ }) rfl rfl rfl rfl]
  simp only [hkept]

/-- R4, R22: qualified LOS set, with its latch. -/
theorem UplinkState.latch_lossQualified (x : UplinkState) :
    x.latch { x with qualLos := true, lossTimer := none } =
      { x with
        qualLos := true, lossTimer := none,
        latches := { x.latches with los := x.latches.los || !x.qualLos } } := by
  rw [UplinkState.latch_filter (old := x) (x := { x with qualLos := true, lossTimer := none }) rfl rfl rfl rfl]
  simp only [Bool.and_true]

/-- R5, R22: qualified LOS cleared sets no latch. -/
theorem UplinkState.latch_lightQualified (x : UplinkState) :
    x.latch { x with qualLos := false, lightTimer := none } = { x with qualLos := false, lightTimer := none } := by
  rw [UplinkState.latch_filter (old := x) (x := { x with qualLos := false, lightTimer := none }) rfl rfl rfl rfl]
  simp only [Bool.and_false, Bool.or_false]

/-- What a handing over does, with the uplink's latches written out. -/
theorem State.handOver_gives {u : Uplink} {x z : UplinkState} {s : State} (hz : (s.uplink u).latch x = z) :
    ∃ h ho wr, s.SameBeyondUplinks (s.handOver u x) ∧ (s.handOver u x).fwd = s.fwd
      ∧ (s.handOver u x).control = s.control ∧ (s.handOver u x).clock = s.clock
      ∧ s.UplinkBecomes (s.handOver u x) u { z with health := h, holdOffTimer := ho, restoreTimer := wr } :=
  hz ▸ State.handOver_spec u x s

theorem exec_losAssert (u : Uplink) (s : State) : exec (.losAssert u) s = .next (losEdge u true s) := rfl

theorem exec_losDeassert (u : Uplink) (s : State) : exec (.losDeassert u) s = .next (losEdge u false s) := rfl

/-- Settles O6. -/
theorem losEdgesFollowTheFilter : Obligations.LosEdgesFollowTheFilter := by
  intro u s hr
  dsimp only
  rw [exec_losAssert, exec_losDeassert]
  refine ⟨fun hraw hm => ?_, fun hraw hm => ?_, fun hraw hm => ?_, fun hraw hm => ?_⟩
  · obtain ⟨h, ho, wr, hsame, hfwd, hctl, hclk, hb⟩ :=
      State.handOver_gives (UplinkState.latch_losEdged_assert (s.uplink u) s.clock.now)
    rw [losEdge_monitored hr (by simp [hraw]) hm]
    exact ⟨_, h, ho, wr, rfl, hsame, hclk, hfwd, hctl, hb⟩
  · obtain ⟨h, ho, wr, hsame, hfwd, hctl, hclk, hb⟩ :=
      State.handOver_gives (UplinkState.latch_losEdged_deassert (s.uplink u) s.clock.now)
    rw [losEdge_monitored hr (by simp [hraw]) hm]
    exact ⟨_, h, ho, wr, rfl, hsame, hclk, hfwd, hctl, hb⟩
  · rw [losEdge_disabled hr (by simp [hraw]) hm]
    refine ⟨_, rfl, rfl, fun v => ?_⟩
    rw [State.uplink_setUplink]
    simp only [eq_comm (a := u)]
  · rw [losEdge_disabled hr (by simp [hraw]) hm]
    refine ⟨_, rfl, rfl, fun v => ?_⟩
    rw [State.uplink_setUplink]
    simp only [eq_comm (a := u)]

/-- A row behind the running gate, at a part that RESET does not hold. -/
theorem exec_lossQualifyExpiry {s : State} (hr : s.resetHeld = false) (u : Uplink) :
    exec (.lossQualifyExpiry u) s = .next (lossQualifyExpiry u s) := whenRunning_of_released hr _

theorem exec_lightQualifyExpiry {s : State} (hr : s.resetHeld = false) (u : Uplink) :
    exec (.lightQualifyExpiry u) s = .next (lightQualifyExpiry u s) := whenRunning_of_released hr _

/-- Settles O7. -/
theorem qualifyExpiriesSetQualifiedLos : Obligations.QualifyExpiriesSetQualifiedLos := by
  intro u s hr
  dsimp only
  rw [exec_lossQualifyExpiry hr, exec_lightQualifyExpiry hr]
  refine ⟨fun e he => ?_, fun e he => ?_, fun hn => by rw [lossQualifyExpiry_stopped hn],
    fun hn => by rw [lightQualifyExpiry_stopped hn]⟩
  · obtain ⟨h, ho, wr, hsame, hfwd, hctl, hclk, hb⟩ :=
      State.handOver_gives (s := s.advanceTo e) (UplinkState.latch_lossQualified (s.uplink u))
    rw [lossQualifyExpiry_running he]
    exact ⟨_, h, ho, wr, rfl, State.sameBeyondUplinks_of_advanceTo hsame, hfwd, hctl,
      State.timeReaches_of_advanceTo hclk, State.uplinkBecomes_of_advanceTo hb⟩
  · obtain ⟨h, ho, wr, hsame, hfwd, hctl, hclk, hb⟩ :=
      State.handOver_gives (s := s.advanceTo e) (UplinkState.latch_lightQualified (s.uplink u))
    rw [lightQualifyExpiry_running he]
    exact ⟨_, h, ho, wr, rfl, State.sameBeyondUplinks_of_advanceTo hsame, hfwd, hctl,
      State.timeReaches_of_advanceTo hclk, State.uplinkBecomes_of_advanceTo hb⟩

/-! ### The judgement timers (R16, R18) -/

theorem exec_holdOffExpiry {s : State} (hr : s.resetHeld = false) (u : Uplink) :
    exec (.holdOffExpiry u) s = .next (holdOffExpiry u s) := whenRunning_of_released hr _

theorem exec_waitToRestoreExpiry {s : State} (hr : s.resetHeld = false) (u : Uplink) :
    exec (.waitToRestoreExpiry u) s = .next (waitToRestoreExpiry u s) := whenRunning_of_released hr _

/-- R16 in one record and one event. -/
theorem UplinkState.holdOffJudgement_eq (x : UplinkState) (u : Uplink) :
    x.holdOffJudgement u =
      ({ x with holdOffTimer := none, health := if x.defects.present then .down else .up },
       [if x.defects.present then .uplinkDown u x.defects else .uplinkUp u .rideThrough]) := by
  unfold UplinkState.holdOffJudgement
  split <;> rfl

/-- R16: the expiry of a running hold-off timer. -/
theorem holdOffExpiry_running {s : State} {u : Uplink} {e : Nat} (h : (s.uplink u).holdOffTimer = some e) :
    holdOffExpiry u s = (s.advanceTo e).settleHealth u
      ({ s.uplink u with holdOffTimer := none, health := if (s.uplink u).defects.present then .down else .up },
       [if (s.uplink u).defects.present then .uplinkDown u (s.uplink u).defects else .uplinkUp u .rideThrough])
      (s.advanceTo e) := by
  simp only [holdOffExpiry, h]
  rw [UplinkState.holdOffJudgement_eq]
  rfl

/-- R18: the expiry of a running wait-to-restore timer. -/
theorem waitToRestoreExpiry_running {s : State} {u : Uplink} {e : Nat} (h : (s.uplink u).restoreTimer = some e) :
    waitToRestoreExpiry u s = (s.advanceTo e).settleHealth u
      ({ s.uplink u with restoreTimer := none, health := .up }, [.uplinkUp u .restored]) (s.advanceTo e) := by
  simp only [waitToRestoreExpiry, h]
  rfl

/-- Settles O9. -/
theorem judgementExpiriesDecideHealth : Obligations.JudgementExpiriesDecideHealth := by
  intro u s hr
  dsimp only
  rw [exec_holdOffExpiry hr, exec_waitToRestoreExpiry hr]
  refine ⟨fun e he => ?_, fun e he => ?_, fun hn => by simp only [holdOffExpiry, hn],
    fun hn => by simp only [waitToRestoreExpiry, hn]⟩
  · rw [holdOffExpiry_running he]
    obtain ⟨hsame, hfwd, hctl, hclk, hb, hq⟩ := State.settleHealth_spec u _ (s.advanceTo e)
    exact ⟨_, rfl, State.sameBeyondUplinks_of_advanceTo hsame, hfwd, hctl, State.timeReaches_of_advanceTo hclk,
      State.uplinkBecomes_of_advanceTo hb, State.queues_of_advanceTo hq⟩
  · rw [waitToRestoreExpiry_running he]
    obtain ⟨hsame, hfwd, hctl, hclk, hb, hq⟩ := State.settleHealth_spec u _ (s.advanceTo e)
    exact ⟨_, rfl, State.sameBeyondUplinks_of_advanceTo hsame, hfwd, hctl, State.timeReaches_of_advanceTo hclk,
      State.uplinkBecomes_of_advanceTo hb, State.queues_of_advanceTo hq⟩

/-! ### The continuity deadline (R40) -/

theorem exec_continuityDeadlineExpiry {s : State} (hr : s.resetHeld = false) (u : Uplink) :
    exec (.continuityDeadlineExpiry u) s = .next (continuityDeadlineExpiry u s) := whenRunning_of_released hr _

/-- R22, R40: continuity lost, with its latch. -/
theorem UplinkState.latch_loseContinuity {x : UplinkState} (hc : x.continuity = .established) :
    x.latch x.loseContinuity = { x with
      continuity := .lost, deadline := .stopped, rdi := false, window := [], errored := 0, lastAccepted := none,
      degraded := false, latches := { x.latches with cont := true } } := by
  have h1 : ∀ b : Bool, (!b && b) = false := by decide
  simp [UplinkState.latch, UplinkState.loseContinuity, hc, h1]

/-- R15, R40: the event of an UP uplink that loses continuity. -/
theorem UplinkState.protect_loseContinuity {x : UplinkState} (u : Uplink) (now : Nat) (hs : x.HealthSound)
    (hup : x.health = .up) (hp : x.probing = true) :
    ((x.latch x.loseContinuity).protect u now x.defects).2 =
      [if x.settings.holdOff = 0 then .uplinkDown u { los := false, cont := true, rdi := false, sd := false }
        else .uplinkHoldoff u { los := false, cont := true, rdi := false, sd := false }] := by
  have hclean : x.defects.present = false := hs.2.2.2.1 (.inl hup)
  have hlos : x.qualLos = false := by
    simp only [UplinkState.defects, Defects.present, Bool.or_eq_false_iff] at hclean
    exact hclean.1.1.1
  obtain ⟨z, hz⟩ : ∃ z, z = x.latch x.loseContinuity := ⟨_, rfl⟩
  have hk : x.KeepsHealth z := by rw [hz]; exact ⟨rfl, rfl, rfl, rfl⟩
  have hset : z.settings = x.settings := by rw [hz]; rfl
  have hzp : z.probing = true := by rw [hz]; exact hp
  have hd : z.defects = { los := false, cont := true, rdi := false, sd := false } := by
    unfold UplinkState.defects
    rw [hzp, hz]
    simp [UplinkState.latch, UplinkState.loseContinuity, hlos]
  rw [← hz, UplinkState.protect_eq_tableStep u now hs hk]
  unfold UplinkState.tableStep UplinkState.judge UplinkState.goDown
  rw [hk.1.trans hup, hd, hset]
  simp only [Defects.present, Bool.or_false, Bool.or_true]
  split <;> rfl

/-- Settles O17. -/
theorem deadlineExpiryLosesContinuity : Obligations.DeadlineExpiryLosesContinuity := by
  intro u s hr
  dsimp only
  rw [exec_continuityDeadlineExpiry hr]
  refine ⟨fun e he hc => ?_, fun hn => by rw [continuityDeadlineExpiry_stopped hn]⟩
  obtain ⟨h, ho, wr, hsame, hfwd, hctl, hclk, hb⟩ :=
    State.handOver_gives (s := s.advanceTo e) (u := u) (UplinkState.latch_loseContinuity hc)
  have hq := State.handOver_queues u (s.uplink u).loseContinuity (s.advanceTo e)
  rw [continuityDeadlineExpiry_running he]
  refine ⟨_, h, ho, wr, rfl, State.sameBeyondUplinks_of_advanceTo hsame, hfwd, hctl,
    State.timeReaches_of_advanceTo hclk, State.uplinkBecomes_of_advanceTo hb, fun hs hup hp => ?_⟩
  rw [State.advanceTo_uplink, UplinkState.protect_loseContinuity u _ hs hup hp] at hq
  have hdeg : degradeEvents u (s.uplink u) (s.uplink u).loseContinuity =
      if (s.uplink u).degraded then [.degradeClear u 0 0] else [] := by
    unfold degradeEvents UplinkState.loseContinuity
    cases (s.uplink u).degraded <;> rfl
  rw [hdeg] at hq
  exact State.queues_of_advanceTo hq

/-! ### The state after reset -/

theorem State.uplink_reset (u : Uplink) : State.reset.uplink u = UplinkState.reset false false :=
  vector_get_replicate _ u

theorem State.conduit_reset (c : Conduit) : State.reset.conduit c = ConduitState.reset := vector_get_replicate _ c

theorem State.lane_reset (l : Lane) : State.reset.lane l = LaneState.reset := vector_get_replicate _ l

theorem State.planIn_reset (b : Bank) (g : Group) : State.reset.planIn b g = Plan.default := by cases b <;> rfl

theorem State.group_reset (g : Group) : State.reset.group g = GroupBuckets.reset := rfl

theorem State.servedPlan_reset (g : Group) : (State.reset.servedPlan g).planned = false := by
  rw [State.servedPlan, State.planIn_reset]
  rfl

theorem State.reset_monitorSound : MonitorSound State.reset := by
  refine (State.runningSound_iff rfl).1 ⟨rfl, fun u => ?_⟩
  rw [State.uplink_reset]
  exact ⟨UplinkState.reset_sound _ _, rfl⟩

theorem State.reset_conduitsSound : ConduitsSound State.reset := by
  refine ⟨⟨fun c => ?_, fun u => ?_, fun u => ?_⟩, fun c => ?_⟩
  · rw [State.conduit_reset]
    exact iff_of_false (by decide) fun h => h.1 rfl
  · rw [State.uplink_reset]
    exact iff_of_false (by decide) fun h => absurd h.1 (by decide)
  · rw [State.uplink_reset]
    exact iff_of_false (by decide) fun h => absurd h.1 (by decide)
  · rw [State.conduit_reset]
    decide

theorem State.reset_forwardingSound : ForwardingSound State.reset := by
  refine ⟨fun l => ?_, ?_⟩
  · rw [State.lane_reset]
    simp [LaneState.Sound, LaneState.reset]
  · have hempty : ∀ l, (State.reset.lane l).queue = [] := fun l => by rw [State.lane_reset]; rfl
    unfold LinkSound
    exact ⟨by decide, by decide, by decide, by decide, by decide, List.Pairwise.nil, List.Pairwise.nil,
      fun _ => ⟨rfl, rfl, rfl, rfl, hempty⟩⟩

theorem State.reset_eventsSound : EventsSound State.reset := by
  simp [EventsSound, EventQueue.LingerSound, State.reset, EventQueue.reset, Clock.reset]

theorem State.reset_sweepSound : SweepSound State.reset := by
  have hqueued : ∀ g, ¬ State.reset.replanQueued g := by
    rintro g ⟨f, hf, -⟩
    cases hf
  have hbanks : BanksSound State.reset := by
    refine ⟨⟨GroupMap.canonical_nil _, GroupMap.canonical_nil _, GroupMap.canonical_nil _, List.Pairwise.nil⟩,
      fun b g => ?_, ⟨List.Pairwise.nil, fun g h => hqueued g h.1, nofun, fun g => ?_⟩, by decide, nofun⟩
    · rw [State.planIn_reset]
      simp [Plan.WellFormed, Plan.default]
    · rw [if_neg (by decide)]
      exact ⟨rfl, hqueued g, rfl⟩
  refine ⟨hbanks, fun g => ?_, fun g hp => ?_, nofun⟩
  · rw [State.servedPlan_reset]
    exact ⟨rfl, rfl⟩
  · rw [State.servedPlan_reset] at hp
    cases hp

theorem State.reset_controlSound : ControlSound State.reset :=
  ⟨rfl, by decide, by decide, trivial, fun _ => rfl⟩

/-- Settles O52. -/
theorem resetIsSound : Obligations.ResetIsSound :=
  ⟨State.reset_monitorSound, State.reset_conduitsSound, State.reset_forwardingSound, State.reset_eventsSound,
    State.reset_sweepSound, State.reset_controlSound⟩

end Sys2Proof.Machine
end

section
/-! SUPPORT. A command at a free port, its reply, and the emission that may follow it: what each leaves of the
statements' frames. -/

namespace Sys2Proof.Machine

/-! ### A command at a free port -/

/-- R165: a command at a free port is taken at once. -/
theorem exec_rowOf {s : State} (hs : s.PortFree) (tag : Byte) (c : Command) :
    exec (rowOf tag c) s = .next (takeCommand tag c s) := by
  obtain ⟨hr, hq, hh, hreps⟩ := hs
  have hrow : exec (rowOf tag c) s = whenRunning s (receiveCommand tag c) := by cases c <;> rfl
  rw [hrow, whenRunning_of_released hr, receiveCommand_free tag c hq hh hreps]

theorem exec_setUplink {s : State} (hs : s.PortFree) (tag : Byte) (f : UplinkFields) :
    exec (.setUplink tag f) s = .next (finish 0x10#8 tag (doSetUplink f s)) := exec_rowOf hs tag (.setUplink f)

theorem exec_getUplink {s : State} (hs : s.PortFree) (tag b : Byte) :
    exec (.getUplink tag b) s = .next (finish 0x11#8 tag (doGetUplink b s)) := exec_rowOf hs tag (.getUplink b)

theorem exec_setAdmin {s : State} (hs : s.PortFree) (tag b mode : Byte) :
    exec (.setAdmin tag b mode) s = .next (finish 0x12#8 tag (doSetAdmin b mode s)) :=
  exec_rowOf hs tag (.setAdmin b mode)

theorem exec_forceRestore {s : State} (hs : s.PortFree) (tag b : Byte) :
    exec (.forceRestore tag b) s = .next (finish 0x13#8 tag (doForceRestore b s)) :=
  exec_rowOf hs tag (.forceRestore b)

theorem exec_clearLatch {s : State} (hs : s.PortFree) (tag b : Byte) :
    exec (.clearLatch tag b) s = .next (finish 0x14#8 tag (doClearLatch b s)) := exec_rowOf hs tag (.clearLatch b)

/-- R171: an uplink number up to 15 names that uplink. -/
theorem judgeUplink_some {b : Byte} {u : Uplink} (h : b.toNat = u.val) : judgeUplink b = some u := by
  unfold judgeUplink
  rw [dif_pos (by omega)]
  exact congrArg some (Fin.ext h)

theorem judgeUplink_none {b : Byte} (h : 15 < b.toNat) : judgeUplink b = none := by
  unfold judgeUplink
  rw [dif_neg (by omega)]

/-- R166: a command's reply is all it does at the control port, if its effect does nothing there. -/
theorem State.answers_finish {s t : State} (type tag : Byte) (body : ReplyBody) (h : t.control = s.control) :
    s.Answers (finish type tag (t, body)) type tag body := by
  unfold State.Answers finish State.reply
  rw [h]

/-- A reply is no part of the frames of an uplink's step. -/
theorem State.sameBeyondUplinks_finish {s t : State} {type tag : Byte} {body : ReplyBody}
    (h : s.SameBeyondUplinks t) : s.SameBeyondUplinks (finish type tag (t, body)) := h

theorem State.uplinkBecomes_finish {s t : State} {u : Uplink} {x : UplinkState} {type tag : Byte} {body : ReplyBody}
    (h : s.UplinkBecomes t u x) : s.UplinkBecomes (finish type tag (t, body)) u x := h

theorem State.queues_finish {s t : State} {u : Uplink} {es : List Event} {type tag : Byte} {body : ReplyBody}
    (h : s.Queues t u es) : s.Queues (finish type tag (t, body)) u es := h

theorem State.fwd_finish {t : State} {f : FwdState} {type tag : Byte} {body : ReplyBody} (h : t.fwd = f) :
    (finish type tag (t, body)).fwd = f := h

/-- A refusal replies and changes nothing. -/
theorem finish_refusal (s : State) (type tag : Byte) (body : ReplyBody) :
    finish type tag (s, body) = { s with control := (finish type tag (s, body)).control } := rfl

/-! ### An emission after a step (R31, R32) -/

/-- The part with the outgoing sequence, the clock and the probe list that an emission on uplink `u` leaves. -/
def State.emitted (s : State) (u : Uplink) (seq : Byte) (clock : ProbeClock) (probes : List ProbeOut) : State :=
  { s.setUplink u { s.uplink u with outSeq := seq, clock } with fwd := { s.fwd with probes } }

theorem State.uplink_emitted_self (s : State) (u : Uplink) (seq : Byte) (clock : ProbeClock) (probes : List ProbeOut) :
    (s.emitted u seq clock probes).uplink u = { s.uplink u with outSeq := seq, clock } :=
  State.uplink_setUplink_self s u _

theorem State.uplink_emitted_other {s : State} {u v : Uplink} (h : v ≠ u) (seq : Byte) (clock : ProbeClock)
    (probes : List ProbeOut) : (s.emitted u seq clock probes).uplink v = s.uplink v := by
  show (s.setUplink u _).uplink v = _
  rw [State.uplink_setUplink, if_neg (Ne.symm h)]

/-- Of any uplink an emission changes the outgoing sequence and the clock alone. -/
theorem State.uplink_emitted (s : State) (u v : Uplink) (seq : Byte) (clock : ProbeClock) (probes : List ProbeOut) :
    ∃ n k, (s.emitted u seq clock probes).uplink v = { s.uplink v with outSeq := n, clock := k } := by
  by_cases h : v = u
  · rw [h]
    exact ⟨_, _, State.uplink_emitted_self s u seq clock probes⟩
  · exact ⟨_, _, State.uplink_emitted_other h seq clock probes⟩

/-- An emission that writes what stands does nothing. -/
theorem State.emitted_same (s : State) (u : Uplink) :
    s.emitted u (s.uplink u).outSeq (s.uplink u).clock s.fwd.probes = s := by
  unfold State.emitted
  rw [show ({ s.uplink u with outSeq := (s.uplink u).outSeq, clock := (s.uplink u).clock } : UplinkState) =
    s.uplink u from rfl, State.setUplink_same]

/-- R31, R32, R143: the emission at the start of a clock. -/
theorem State.emitAtStart_running {s : State} {u : Uplink} {start n : Nat}
    (h : (s.uplink u).clock = .running start n) :
    s.emitAtStart u = s.emitted u
      (if (s.uplink u).settings.phase = 0 then (s.uplink u).outSeq + 1#8 else (s.uplink u).outSeq)
      (.running start (if (s.uplink u).settings.phase = 0 then n + 1 else n))
      (if (s.uplink u).settings.phase = 0 ∧ s.fwd.linkUp = true then
        s.fwd.probes.filter (fun z => z.uplink ≠ u) ++
          [{ uplink := u, seq := (s.uplink u).outSeq, rdi := (s.uplink u).localDefect }]
        else s.fwd.probes) := by
  unfold State.emitAtStart
  by_cases hp : (s.uplink u).settings.phase = 0
  · simp only [hp, if_true, true_and]
    rw [State.emit_running h]
    unfold State.handProbe State.emitted
    rw [State.setUplink_fwd]
    cases hl : s.fwd.linkUp <;> rfl
  · simp only [hp, if_false, false_and]
    have e := State.emitted_same s u
    rw [h] at e
    exact e.symm

/-- A step's marks are read off the usable flags, the sweep engine and the time. -/
theorem State.marksDirty_congr {s t t' : State} (hu : ∀ u, (t'.uplink u).usable = (t.uplink u).usable)
    (hs : t'.sweep = t.sweep) (hc : t'.clock = t.clock) (h : s.MarksDirty t) : s.MarksDirty t' := by
  have hd : ∀ g, s.MarkDue t' g ↔ s.MarkDue t g := fun g => by
    unfold State.MarkDue
    simp only [hu]
  unfold State.MarksDirty at h ⊢
  simpa only [hd, hs, hc] using h

/-- The conduits' reports are read off the conduits, the memberships, the shunned flags and the DOWN counts. -/
theorem State.conduitReports_congr {s t t' : State} (u : Uplink) (hc : t'.conduits = t.conduits)
    (hu : ∀ v, ∃ n k, t'.uplink v = { t.uplink v with outSeq := n, clock := k }) :
    s.conduitReports t' u = s.conduitReports t u := by
  have hset : ∀ v, (t'.uplink v).settings = (t.uplink v).settings := fun v => by
    obtain ⟨n, k, e⟩ := hu v
    rw [e]
  have hshun : ∀ v, (t'.uplink v).shunned = (t.uplink v).shunned := fun v => by
    obtain ⟨n, k, e⟩ := hu v
    rw [e]
  have hdown : ∀ v, (t'.uplink v).countsDown = (t.uplink v).countsDown := fun v => by
    obtain ⟨n, k, e⟩ := hu v
    rw [e]
    rfl
  have hcon : ∀ c, t'.conduit c = t.conduit c := fun c => by unfold State.conduit; rw [hc]
  have hcount : ∀ c, t'.downCount c = t.downCount c := fun c => by
    unfold State.downCount
    simp only [hset, hdown]
  unfold State.conduitReports State.conduitReport
  simp only [hset, hshun, hcon, hcount]

section Emitted
variable {s t : State} {u : Uplink} (seq : Byte) (clock : ProbeClock) (probes : List ProbeOut)

/-- What holds beyond the uplinks holds after an emission. -/
theorem State.sameBeyondUplinks_emitted (h : s.SameBeyondUplinks t) :
    s.SameBeyondUplinks (t.emitted u seq clock probes) := by
  refine ⟨h.1, State.marksDirty_congr (t := t) (fun v => ?_) rfl rfl h.2⟩
  obtain ⟨n, k, e⟩ := State.uplink_emitted t u v seq clock probes
  rw [e]

/-- The events of a step are those after its emission. -/
theorem State.queues_emitted {es : List Event} (h : s.Queues t u es) :
    s.Queues (t.emitted u seq clock probes) u es := by
  unfold State.Queues at h ⊢
  rw [State.conduitReports_congr (t := t) (t' := t.emitted u seq clock probes) u rfl
    (fun v => State.uplink_emitted t u v seq clock probes)]
  exact h

theorem State.uplinkBecomes_emitted {x : UplinkState} (h : s.UplinkBecomes t u x) :
    s.UplinkBecomes (t.emitted u seq clock probes) u { x with outSeq := seq, clock := clock } := by
  obtain ⟨⟨a, b, e⟩, hv⟩ := h
  refine ⟨⟨a, b, ?_⟩, fun v hne => ?_⟩
  · rw [State.uplink_emitted_self, e]
  · rw [State.uplink_emitted_other hne]
    exact hv v hne

/-- Of the forwarding port an emission changes the probe list alone. -/
theorem State.fwd_emitted (h : t.fwd = s.fwd) : (t.emitted u seq clock probes).fwd = { s.fwd with probes } := by
  rw [← h]
  rfl

end Emitted

end Sys2Proof.Machine
end

section
/-! FORCE-RESTORE (O10), SET-ADMIN (O11, O12), CLEAR-LATCH (O13) and GET-UPLINK (O23). -/

namespace Sys2Proof.Machine

/-! ### FORCE-RESTORE (R19) -/

/-- Settles O10. -/
theorem forceRestoreOnlyFromRestoring : Obligations.ForceRestoreOnlyFromRestoring := by
  intro tag b s hs
  rw [exec_forceRestore hs]
  refine ⟨fun u hu => ⟨fun hh => ?_, fun hh => ?_⟩, fun hb => ?_⟩
  · obtain ⟨hsame, hfwd, hctl, hclk, hb, hq⟩ := State.settleHealth_spec u
      ({ s.uplink u with restoreTimer := none, health := .up }, [.uplinkUp u .forced]) s
    have hdo : doForceRestore b s = (s.settleHealth u
        ({ s.uplink u with restoreTimer := none, health := .up }, [.uplinkUp u .forced]) s, .ok false []) := by
      unfold doForceRestore
      simp only [judgeUplink_some hu, hh, if_true]
      rfl
    rw [hdo]
    exact ⟨_, rfl, State.sameBeyondUplinks_finish hsame, hfwd, hclk, State.answers_finish _ _ _ hctl,
      State.uplinkBecomes_finish hb, State.queues_finish hq⟩
  · have hdo : doForceRestore b s = (s, .wrongState (s.uplink u).health) := by
      unfold doForceRestore
      simp only [judgeUplink_some hu, hh, if_false]
    rw [hdo]
    exact ⟨_, rfl, rfl, State.answers_finish _ _ _ rfl⟩
  · have hdo : doForceRestore b s = (s, .invalid .uplink none) := by
      unfold doForceRestore
      rw [judgeUplink_none hb]
      rfl
    rw [hdo]
    exact ⟨_, rfl, rfl, State.answers_finish _ _ _ rfl⟩

/-! ### SET-ADMIN (R9 to R11) -/

/-- SET-ADMIN with codes that name an uplink and a mode. -/
theorem doSetAdmin_good {s : State} {b mode : Byte} {u : Uplink} {m : AdminMode} (hu : b.toNat = u.val)
    (hm : judgeAdmin mode = some m) : doSetAdmin b mode s = (s.setAdmin u m,
      .ok false [((s.setAdmin u m).uplink u).admin.code, ((s.setAdmin u m).uplink u).health.code]) := by
  unfold doSetAdmin
  simp only [judgeUplink_some hu, hm]

/-- Section 11.5: the codes of ACTIVE and DRAIN. -/
theorem judgeAdmin_monitored {mode : Byte} {m : AdminMode}
    (h : mode = 0#8 ∧ m = .active ∨ mode = 1#8 ∧ m = .drain) : judgeAdmin mode = some m ∧ m ≠ .disabled := by
  rcases h with ⟨rfl, rfl⟩ | ⟨rfl, rfl⟩ <;> exact ⟨rfl, by decide⟩

theorem judgeAdmin_code (m : AdminMode) : judgeAdmin m.code = some m := by cases m <;> rfl

/-- Section 11.5: there is no mode code above 2. -/
theorem judgeAdmin_none {mode : Byte} (h : 2 < mode.toNat) : judgeAdmin mode = none := by
  have hne : ∀ n : Byte, n.toNat ≤ 2 → mode ≠ n := fun n hn e => by rw [e] at h; omega
  unfold judgeAdmin
  rw [if_neg (hne _ (by decide)), if_neg (hne _ (by decide)), if_neg (hne _ (by decide))]

/-- What an uplink's step gives it, its admin mode and health read off. -/
theorem State.UplinkBecomes.codes {s t : State} {u : Uplink} {x : UplinkState} (h : s.UplinkBecomes t u x) :
    (t.uplink u).admin = x.admin ∧ (t.uplink u).health = x.health := by
  obtain ⟨⟨a, b, e⟩, -⟩ := h
  rw [e]
  exact ⟨rfl, rfl⟩

/-- R7, R9, R30: a sound uplink set to DISABLED, in one record. -/
theorem UplinkState.disable_eq {linkUp : Bool} {x : UplinkState} (hp : x.ProbeSound) (hd : x.DeadlineSound linkUp) :
    x.disable = { x with
      admin := .disabled, health := .idle, holdOffTimer := none, restoreTimer := none, qualLos := false,
      lossTimer := none, lightTimer := none, clock := .stopped, deadline := .stopped, continuity := .inactive,
      rdi := false, window := [], degraded := false, lastAccepted := none, errored := 0 } := by
  unfold UplinkState.disable
  split
  · rfl
  · rename_i hpr
    have hpr : x.probing = false := by simpa using hpr
    obtain ⟨hpc, hpk, hne, -⟩ := hp
    have hc := hpc.1 hpr
    obtain ⟨hrdi, hwin, hdeg, hlast, herr⟩ := hne (by simp [hc])
    have hdl : x.deadline = .stopped := by
      unfold UplinkState.DeadlineSound at hd
      cases hx : x.deadline with
      | stopped => rfl
      | running e => rw [hx] at hd; exact absurd (hc.symm.trans hd.1) (by simp)
      | suspended => rw [hx] at hd; exact absurd (hc.symm.trans hd.1) (by simp)
    simp only [hpk.1 hpr, hdl, hc, hrdi, hwin, hdeg, hlast, herr]

/-- Settles O12. -/
theorem setAdminDisablesAndSwitches : Obligations.SetAdminDisablesAndSwitches := by
  intro tag b mode s hs
  dsimp only
  rw [exec_setAdmin hs]
  refine ⟨fun u hu => ⟨fun hmode hm hp hd => ?_, fun m hmode hm hne => ?_, fun hmode => ?_, fun hmode => ?_⟩,
    fun hb => ?_⟩
  · have hx : ¬ (s.uplink u).admin = .disabled := by simpa [UplinkState.monitored] using hm
    have hset : s.setAdmin u .disabled = s.settleHealth u ((s.uplink u).disable, []) s := by
      unfold State.setAdmin
      simp only [hx, if_false, if_true]
    rw [doSetAdmin_good hu (m := .disabled) (by rw [hmode]; rfl), hset, UplinkState.disable_eq hp hd]
    obtain ⟨hsame, hfwd, hctl, hclk, hbec, hq⟩ := State.settleHealth_spec u ({ s.uplink u with
      admin := .disabled, health := .idle, holdOffTimer := none, restoreTimer := none, qualLos := false,
      lossTimer := none, lightTimer := none, clock := .stopped, deadline := .stopped, continuity := .inactive,
      rdi := false, window := [], degraded := false, lastAccepted := none, errored := 0 }, []) s
    rw [hbec.codes.1, hbec.codes.2]
    exact ⟨_, rfl, State.sameBeyondUplinks_finish hsame, hfwd, hclk, State.uplinkBecomes_finish hbec,
      State.answers_finish _ _ _ hctl, State.queues_finish hq⟩
  · have hx : ¬ (s.uplink u).admin = .disabled := by simpa [UplinkState.monitored] using hm
    obtain ⟨hjudge, hmon⟩ := judgeAdmin_monitored hmode
    have hset : s.setAdmin u m = s.settleHealth u ({ s.uplink u with admin := m }, []) s := by
      unfold State.setAdmin
      simp only [hx, hne, hmon, if_false]
    rw [doSetAdmin_good hu hjudge, hset]
    obtain ⟨hsame, hfwd, hctl, hclk, hbec, hq⟩ :=
      State.settleHealth_spec u ({ s.uplink u with admin := m }, []) s
    rw [hbec.codes.1, hbec.codes.2]
    exact ⟨_, rfl, State.sameBeyondUplinks_finish hsame, hfwd, hclk, State.uplinkBecomes_finish hbec,
      State.answers_finish _ _ _ hctl, State.queues_finish hq⟩
  · have hset : s.setAdmin u (s.uplink u).admin = s := by
      unfold State.setAdmin
      simp only [if_true]
    rw [doSetAdmin_good hu (m := (s.uplink u).admin) (by rw [hmode]; exact judgeAdmin_code _), hset]
    exact ⟨_, rfl, rfl, State.answers_finish _ _ _ rfl⟩
  · have hdo : doSetAdmin b mode s = (s, .invalid .mode none) := by
      unfold doSetAdmin
      simp only [judgeUplink_some hu, judgeAdmin_none hmode]
      rfl
    rw [hdo]
    exact ⟨_, rfl, rfl, State.answers_finish _ _ _ rfl⟩
  · have hdo : doSetAdmin b mode s = (s, .invalid .uplink none) := by
      unfold doSetAdmin
      rw [judgeUplink_none hb]
      rfl
    rw [hdo]
    exact ⟨_, rfl, rfl, State.answers_finish _ _ _ rfl⟩

/-- R14: the START check of a clean uplink, and of one with a defect. -/
theorem UplinkState.startCheck_present {x : UplinkState} (u : Uplink) (now : Nat) (h : x.defects.present = true) :
    x.startCheck u now = (x, []) := by
  unfold UplinkState.startCheck
  rw [if_pos h]

theorem UplinkState.startCheck_clean {x : UplinkState} (u : Uplink) (now : Nat) (h : x.defects.present = false) :
    x.startCheck u now =
      if x.settings.waitToRestore = 0 then ({ x with health := .up }, [.uplinkUp u .start])
      else ({ x with health := .restoring, restoreTimer := some (now + x.settings.waitToRestore * 1000000) },
        [.uplinkRestoring u .start]) := by
  unfold UplinkState.startCheck UplinkState.restore
  rw [if_neg (by simp [h])]
  rfl

/-- SET-ADMIN on a DISABLED uplink with the code of ACTIVE or DRAIN. -/
theorem doSetAdmin_enables {s : State} {b mode : Byte} {u : Uplink} {m : AdminMode} (hu : b.toNat = u.val)
    (hx : (s.uplink u).admin = .disabled) (hmode : mode = 0#8 ∧ m = .active ∨ mode = 1#8 ∧ m = .drain) :
    doSetAdmin b mode s = (s.enableUplink u m, .ok false
      [((s.enableUplink u m).uplink u).admin.code, ((s.enableUplink u m).uplink u).health.code]) := by
  obtain ⟨hjudge, hmon⟩ := judgeAdmin_monitored hmode
  have hset : s.setAdmin u m = s.enableUplink u m := by
    unfold State.setAdmin
    simp only [hx, hmon, Ne.symm hmon, if_false, if_true]
  rw [doSetAdmin_good hu hjudge, hset]

/-- R10, R22: a DISABLED uplink enabled with probing off. -/
theorem UplinkState.latch_enable_idle {x : UplinkState} (m : AdminMode) (now : Nat) (hq : x.qualLos = false)
    (hmul : x.settings.multiplier = 0) : x.latch (x.enable m now) = { x with
      admin := m, qualLos := x.rawLos, health := .start,
      latches := { x.latches with los := x.latches.los || x.rawLos } } := by
  have henable : x.enable m now = { x with admin := m, qualLos := x.rawLos, health := .start } := by
    unfold UplinkState.enable
    simp only [hmul, ne_eq, not_true_eq_false, if_false]
  rw [henable, UplinkState.latch_filter (old := x) (x := { x with admin := m, qualLos := x.rawLos, health := .start })
    rfl rfl rfl rfl]
  simp only [hq, Bool.not_false, Bool.true_and]

/-- R10, R22, R28: the same with probing on. -/
theorem UplinkState.latch_enable_probing {x : UplinkState} (m : AdminMode) (now : Nat) (hq : x.qualLos = false)
    (hmul : x.settings.multiplier ≠ 0) : x.latch (x.enable m now) = { x with
      admin := m, qualLos := x.rawLos, health := .start,
      latches := { x.latches with los := x.latches.los || x.rawLos },
      outSeq := 0#8, lastAccepted := none, errored := 0, continuity := .notEstablished, deadline := .stopped,
      rdi := false, window := [], degraded := false, clock := .running now 0 } := by
  unfold UplinkState.enable
  simp only [hmul, ne_eq, not_false_eq_true, if_true]
  simp [UplinkState.latch, UplinkState.beginFromIdle, hq]

/-- R14: the START check of an uplink just enabled with probing off: LOS is its only source. -/
theorem UplinkState.startCheck_enabled {y : UplinkState} (u : Uplink) (now : Nat) (hmul : y.settings.multiplier = 0)
    (hstart : y.health = .start) (hwr : y.restoreTimer = none) :
    ∃ h wr es, y.startCheck u now = ({ y with health := h, restoreTimer := wr }, es)
      ∧ (y.qualLos = true → h = .start ∧ wr = none ∧ es = [])
      ∧ (y.qualLos = false → y.settings.waitToRestore = 0 → h = .up ∧ wr = none ∧ es = [.uplinkUp u .start])
      ∧ (y.qualLos = false → y.settings.waitToRestore ≠ 0 → h = .restoring
          ∧ wr = some (now + y.settings.waitToRestore * 1000000) ∧ es = [.uplinkRestoring u .start]) := by
  have hpresent : y.defects.present = y.qualLos := by
    have hp : y.probing = false := by simp [UplinkState.probing, hmul]
    simp [UplinkState.defects, Defects.present, hp]
  by_cases hq : y.qualLos = true
  · rw [UplinkState.startCheck_present u now (hpresent.trans hq)]
    exact ⟨.start, none, [], by rw [← hstart, ← hwr], fun _ => ⟨rfl, rfl, rfl⟩, fun h => absurd (hq.symm.trans h) nofun,
      fun h => absurd (hq.symm.trans h) nofun⟩
  · rw [UplinkState.startCheck_clean u now (hpresent.trans (by simpa using hq))]
    by_cases hw : y.settings.waitToRestore = 0
    · rw [if_pos hw]
      exact ⟨.up, none, _, by rw [← hwr], fun h => absurd h hq, fun _ _ => ⟨rfl, rfl, rfl⟩, fun _ h => absurd hw h⟩
    · rw [if_neg hw]
      exact ⟨.restoring, _, _, rfl, fun h => absurd h hq, fun _ h => absurd h hw, fun _ _ => ⟨rfl, rfl, rfl⟩⟩

/-- R10, R31, R32: the whole enabling step where it ends with an emission due or not. `y` is the uplink in START. -/
theorem State.enableUplink_probing {s : State} {u : Uplink} {m : AdminMode} {y : UplinkState}
    (hy : (s.uplink u).latch ((s.uplink u).enable m s.clock.now) = y) (hp : y.probing = true)
    (hc : y.continuity = .notEstablished) (hk : y.clock = .running s.clock.now 0) :
    s.enableUplink u m = (s.settleHealth u (y, []) s).emitted u
      (if y.settings.phase = 0 then y.outSeq + 1#8 else y.outSeq)
      (.running s.clock.now (if y.settings.phase = 0 then 1 else 0))
      (if y.settings.phase = 0 ∧ s.fwd.linkUp = true then
        s.fwd.probes.filter (fun z => z.uplink ≠ u) ++ [{ uplink := u, seq := y.outSeq, rdi := true }]
        else s.fwd.probes) := by
  have hpresent : y.defects.present = true := by simp [UplinkState.defects, Defects.present, hp, hc]
  obtain ⟨-, hfwd, -, -, ⟨⟨a, c, e⟩, -⟩, -⟩ := State.settleHealth_spec u (y, []) s
  have hclock : ((s.settleHealth u (y, []) s).uplink u).clock = .running s.clock.now 0 := by rw [e]; exact hk
  have hrdi : ((s.settleHealth u (y, []) s).uplink u).localDefect = true := by
    rw [e]
    simp [UplinkState.localDefect, hc]
  have hset : ((s.settleHealth u (y, []) s).uplink u).settings = y.settings := by rw [e]
  have hseq : ((s.settleHealth u (y, []) s).uplink u).outSeq = y.outSeq := by rw [e]
  have hprobing : ((s.settleHealth u (y, []) s).uplink u).probing = true := by rw [e]; exact hp
  unfold State.enableUplink
  simp only [hy, UplinkState.startCheck_present u s.clock.now hpresent, hprobing, if_true]
  rw [State.emitAtStart_running hclock, hrdi, hset, hseq, hfwd]

/-- Settles O11. -/
theorem enablingEntersTheMachine : Obligations.EnablingEntersTheMachine := by
  intro tag b mode u m s hs hu hhealth hfilter hx hmode
  dsimp only
  have hmon : (s.uplink u).monitored = false := by simp [UplinkState.monitored, hx]
  obtain ⟨hq, -, -⟩ := hfilter.2.2 hmon
  have hidle : (s.uplink u).health = .idle := hhealth.1.2 hx
  rw [UplinkState.healthSound_iff, hidle] at hhealth
  obtain ⟨-, hho, hwr⟩ := hhealth
  obtain ⟨-, hm⟩ := judgeAdmin_monitored hmode
  rw [exec_setAdmin hs, doSetAdmin_enables hu hx hmode]
  refine ⟨fun hmul _ => ?_, fun hmul => ?_⟩
  · obtain ⟨h, wr, es, hcheck, hlos, hup, hrest⟩ := UplinkState.startCheck_enabled (y := { s.uplink u with
      admin := m, qualLos := (s.uplink u).rawLos, health := .start,
      latches := { (s.uplink u).latches with los := (s.uplink u).latches.los || (s.uplink u).rawLos } })
      u s.clock.now hmul rfl hwr
    obtain ⟨hsame, hfwd, hctl, hclk, hbec, hque⟩ := State.settleHealth_spec u ({ s.uplink u with
      admin := m, qualLos := (s.uplink u).rawLos, health := h, restoreTimer := wr,
      latches := { (s.uplink u).latches with los := (s.uplink u).latches.los || (s.uplink u).rawLos } }, es) s
    have henable : s.enableUplink u m = s.settleHealth u ({ s.uplink u with
        admin := m, qualLos := (s.uplink u).rawLos, health := h, restoreTimer := wr,
        latches := { (s.uplink u).latches with los := (s.uplink u).latches.los || (s.uplink u).rawLos } }, es) s := by
      unfold State.enableUplink
      simp only [UplinkState.latch_enable_idle m s.clock.now hq hmul, hcheck]
      rw [if_neg]
      obtain ⟨⟨a, c, e⟩, -⟩ := hbec
      rw [e]
      simp [UplinkState.probing, hmul]
    rw [henable, hbec.codes.1, hbec.codes.2]
    exact ⟨_, h, wr, rfl, State.sameBeyondUplinks_finish hsame, hfwd, hclk, State.uplinkBecomes_finish hbec,
      State.answers_finish _ _ _ hctl,
      fun hr => ⟨(hlos hr).1, (hlos hr).2.1, (hlos hr).2.2 ▸ State.queues_finish hque⟩,
      fun hr hw => ⟨(hup hr hw).1, (hup hr hw).2.1, (hup hr hw).2.2 ▸ State.queues_finish hque⟩,
      fun hr hw => ⟨(hrest hr hw).1, (hrest hr hw).2.1, (hrest hr hw).2.2 ▸ State.queues_finish hque⟩⟩
  · have hlatch := UplinkState.latch_enable_probing m s.clock.now hq hmul
    obtain ⟨y, hy⟩ : ∃ y, (s.uplink u).latch ((s.uplink u).enable m s.clock.now) = y := ⟨_, rfl⟩
    rw [hy] at hlatch
    have hp : y.probing = true := by
      rw [hlatch]
      simp [UplinkState.probing, UplinkState.monitored, hm, hmul]
    rw [State.enableUplink_probing hy hp (by rw [hlatch]) (by rw [hlatch])]
    obtain ⟨hsame, hfwd, hctl, hclk, hbec, hque⟩ := State.settleHealth_spec u (y, []) s
    have hphase : y.settings.phase = (s.uplink u).settings.phase := by rw [hlatch]
    have hseq : y.outSeq = 0#8 := by rw [hlatch]
    have hem := State.uplinkBecomes_emitted (if (s.uplink u).settings.phase = 0 then 0#8 + 1#8 else 0#8)
      (.running s.clock.now (if (s.uplink u).settings.phase = 0 then 1 else 0))
      (if (s.uplink u).settings.phase = 0 ∧ s.fwd.linkUp = true then
        s.fwd.probes.filter (fun z => z.uplink ≠ u) ++ [{ uplink := u, seq := 0#8, rdi := true }]
        else s.fwd.probes) hbec
    have hadmin : y.admin = m := by rw [hlatch]
    have hstart : y.health = .start := by rw [hlatch]
    rw [hphase, hseq, hem.codes.1, hem.codes.2, hadmin, hstart]
    refine ⟨_, rfl, State.sameBeyondUplinks_finish (State.sameBeyondUplinks_emitted _ _ _ hsame), hclk,
      State.uplinkBecomes_finish ?_, State.fwd_finish (State.fwd_emitted _ _ _ hfwd), State.answers_finish _ _ _ hctl,
      State.queues_finish (State.queues_emitted _ _ _ hque)⟩
    subst hlatch
    exact hem

/-! ### CLEAR-LATCH (R23) -/

/-- Settles O13. -/
theorem clearLatchKeepsLiveSources : Obligations.ClearLatchKeepsLiveSources := by
  intro tag b s hs
  rw [exec_clearLatch hs]
  refine ⟨fun u hu => ?_, fun hb => ?_⟩
  · have hdo : doClearLatch b s = (s.setUplink u (s.uplink u).clearLatches,
        .ok false [(s.uplink u).clearLatches.latches.mask]) := by
      unfold doClearLatch
      rw [judgeUplink_some hu]
    rw [hdo]
    refine ⟨_, (s.uplink u).clearLatches.latches.los, (s.uplink u).clearLatches.latches.cont,
      (s.uplink u).clearLatches.latches.rdi, (s.uplink u).clearLatches.latches.sd, rfl, ?_, ?_, ?_, ?_, rfl,
      fun v => ?_, State.answers_finish _ _ _ rfl⟩
    · simp [UplinkState.clearLatches]
    · simp [UplinkState.clearLatches]
    · simp [UplinkState.clearLatches]
    · simp [UplinkState.clearLatches]
    · show (s.setUplink u _).uplink v = _
      rw [State.uplink_setUplink]
      simp only [eq_comm (a := u)]
      rfl
  · have hdo : doClearLatch b s = (s, .invalid .uplink none) := by
      unfold doClearLatch
      rw [judgeUplink_none hb]
      rfl
    rw [hdo]
    exact ⟨_, rfl, rfl, State.answers_finish _ _ _ rfl⟩

/-! ### GET-UPLINK (R26, R51, R63) -/

/-- R63: the condition mask, condition by condition. -/
theorem UplinkState.conditionMask_eq (x : UplinkState) :
    x.conditionMask = if x.usable then 0#8 else
      byte ((decide (x.admin ≠ .active)).toNat + 2 * (decide (x.health ≠ .up ∧ x.health ≠ .holdoff)).toNat
        + 4 * x.shunned.toNat + 8 * (decide (x.degraded = true ∧ x.settings.policy = .fail)).toNat) := by
  have hhealth : (!(decide (x.health = .up) || decide (x.health = .holdoff))) =
      decide (x.health ≠ .up ∧ x.health ≠ .holdoff) := by cases x.health <;> rfl
  have hsd : x.degradedUnderFail = decide (x.degraded = true ∧ x.settings.policy = .fail) := by
    unfold UplinkState.degradedUnderFail
    cases x.degraded <;> cases x.settings.policy <;> rfl
  unfold UplinkState.conditionMask mask4
  rw [hhealth, hsd]

/-- R26, R51, R63: the reading of an uplink item by item, its four items of varying form as the given bytes. -/
theorem UplinkState.reading_eq (x : UplinkState) (now : Nat) {rem last dl : List Byte} {con : Byte}
    (hrem : rem = be32 (x.judgementRemaining now)) (hlast : last = presenceBytes x.lastAccepted)
    (hdl : dl = x.deadline.bytes now) (hcon : con = conduitCode x.settings.conduit) :
    [x.admin.code, x.health.code, if x.rawLos then 1#8 else 0#8, if x.qualLos then 1#8 else 0#8,
        if x.lossTimer.isSome then 1#8 else if x.lightTimer.isSome then 2#8 else 0#8,
        byte (x.defects.los.toNat + 2 * x.defects.cont.toNat + 4 * x.defects.rdi.toNat + 8 * x.defects.sd.toNat),
        byte (x.latches.los.toNat + 2 * x.latches.cont.toNat + 4 * x.latches.rdi.toNat + 8 * x.latches.sd.toNat)]
      ++ be16 x.settings.lossQualify ++ be16 x.settings.lightQualify ++ be16 x.settings.holdOff
      ++ be16 x.settings.waitToRestore ++ [x.settings.policy.code] ++ rem
      ++ [if x.probing then 1#8 else 0#8, byte x.settings.interval, byte x.settings.phase, byte x.settings.multiplier,
        byte x.settings.setThreshold, byte x.settings.clearThreshold, x.outSeq]
      ++ last ++ [byte x.errored, x.continuity.code] ++ dl
      ++ [if x.rdi then 1#8 else 0#8] ++ [byte x.window.length] ++ x.window.map ProbeOutcome.code
      ++ [byte (x.window.countP fun o => decide (o ≠ .good)), if x.degraded then 1#8 else 0#8]
      ++ [con, if x.shunned then 1#8 else 0#8, if x.usable then 1#8 else 0#8,
        if x.usable then 0#8 else
          byte ((decide (x.admin ≠ .active)).toNat + 2 * (decide (x.health ≠ .up ∧ x.health ≠ .holdoff)).toNat
            + 4 * x.shunned.toNat + 8 * (decide (x.degraded = true ∧ x.settings.policy = .fail)).toNat)] =
      x.healthItems now ++ x.probeItems now ++ x.usabilityItems := by
  rw [hrem, hlast, hdl, hcon, ← UplinkState.conditionMask_eq]
  simp only [UplinkState.healthItems, UplinkState.probeItems, UplinkState.usabilityItems, List.append_assoc,
    List.cons_append, List.nil_append]
  rfl

/-- Settles O23. -/
theorem getUplinkReportsOneReading : Obligations.GetUplinkReportsOneReading := by
  intro tag b s hs
  dsimp only
  rw [exec_getUplink hs]
  refine ⟨fun u hu => ?_, fun hb => ?_⟩
  · have hdo : doGetUplink b s = (s, .ok false ((s.uplink u).healthItems s.clock.now
        ++ (s.uplink u).probeItems s.clock.now ++ (s.uplink u).usabilityItems)) := by
      unfold doGetUplink
      rw [judgeUplink_some hu]
    rw [hdo, UplinkState.reading_eq (s.uplink u) s.clock.now ?rem ?last ?dl ?con]
    case rem =>
      unfold UplinkState.judgementRemaining
      cases (s.uplink u).holdOffTimer <;> cases (s.uplink u).restoreTimer <;> rfl
    case last => cases (s.uplink u).lastAccepted <;> rfl
    case dl => cases (s.uplink u).deadline <;> rfl
    case con => cases (s.uplink u).settings.conduit <;> rfl
    exact ⟨_, rfl, rfl, State.answers_finish _ _ _ rfl⟩
  · have hdo : doGetUplink b s = (s, .invalid .uplink none) := by
      unfold doGetUplink
      rw [judgeUplink_none hb]
      rfl
    rw [hdo]
    exact ⟨_, rfl, rfl, State.answers_finish _ _ _ rfl⟩

end Sys2Proof.Machine
end

section
/-! SUPPORT. SET-UPLINK: its judgement and clamps in the statements' words, what it makes of an uplink in each of the
multiplier's four cases, and the emission that may end it. -/

namespace Sys2Proof.Machine

/-! ### The judgement (R170) -/

theorem judgeSettings_uplink {f : UplinkFields} (h : 15 < f.uplink.toNat) :
    judgeSettings f = .bad { code := .uplink, slot := none } := by
  unfold judgeSettings
  rw [judgeUplink_none h]

theorem judgeMembership_none {b : Byte} (h : 7 < b.toNat) (hff : b ≠ 0xFF#8) : judgeMembership b = none := by
  unfold judgeMembership judgeConduit
  rw [if_neg hff, dif_neg (by omega)]
  rfl

/-- R56, R179: the conduit codes, and the byte that reports each. -/
theorem judgeMembership_some {b : Byte} {c : Option Conduit}
    (h : b = 0xFF#8 ∧ c = none ∨ ∃ d : Conduit, b.toNat = d.val ∧ c = some d) :
    judgeMembership b = some c ∧ conduitCode c = b := by
  rcases h with ⟨rfl, rfl⟩ | ⟨d, hd, rfl⟩
  · exact ⟨rfl, rfl⟩
  · have hlt : b.toNat < 8 := by omega
    have hne : b ≠ 0xFF#8 := fun e => by rw [e] at hlt; exact absurd hlt (by decide)
    unfold judgeMembership judgeConduit
    rw [if_neg hne, dif_pos hlt]
    refine ⟨congrArg (some ∘ some) (Fin.ext hd), ?_⟩
    show BitVec.ofNat 8 d.val = b
    rw [← hd]
    simp

theorem judgeMembership_exists {b : Byte} (h : b = 0xFF#8 ∨ b.toNat ≤ 7) : ∃ c, judgeMembership b = some c := by
  rcases h with h | h
  · exact ⟨_, (judgeMembership_some (.inl ⟨h, rfl⟩)).1⟩
  · exact ⟨_, (judgeMembership_some (.inr ⟨⟨b.toNat, by omega⟩, rfl, rfl⟩)).1⟩

theorem judgePolicy_none {b : Byte} (h : 1 < b.toNat) : judgePolicy b = none := by
  have hne : ∀ n : Byte, n.toNat ≤ 1 → b ≠ n := fun n hn e => by rw [e] at h; omega
  unfold judgePolicy
  rw [if_neg (hne _ (by decide)), if_neg (hne _ (by decide))]

/-- Section 11.5: the policy codes, and the byte that reports each. -/
theorem judgePolicy_some {b : Byte} {p : Policy} (h : b = 0#8 ∧ p = .report ∨ b = 1#8 ∧ p = .fail) :
    judgePolicy b = some p ∧ p.code = b := by
  rcases h with ⟨rfl, rfl⟩ | ⟨rfl, rfl⟩ <;> exact ⟨rfl, rfl⟩

theorem judgePolicy_exists {b : Byte} (h : b.toNat ≤ 1) : ∃ p, judgePolicy b = some p := by
  have hb : b = 0#8 ∨ b = 1#8 := by
    simp only [← BitVec.toNat_inj]
    show b.toNat = 0 ∨ b.toNat = 1
    omega
  rcases hb with h | h
  · exact ⟨_, (judgePolicy_some (.inl ⟨h, rfl⟩)).1⟩
  · exact ⟨_, (judgePolicy_some (.inr ⟨h, rfl⟩)).1⟩

/-! ### The clamps (R8, R20, R49) -/

theorem clampTo_zero_eq (hi n : Nat) : clampTo 0 hi n = min hi n := by
  unfold clampTo
  rw [if_neg (by omega)]
  split <;> omega

/-- R8, R20, R49: the settings written, each at its nearest bound. -/
theorem clampSettings_eq (f : UplinkFields) (c : Option Conduit) (p : Policy) :
    clampSettings f c p =
      { conduit := c, lossQualify := min 1000 f.lossQualify.toNat, lightQualify := min 1000 f.lightQualify.toNat,
        holdOff := min 10000 f.holdOff.toNat, waitToRestore := min 3600 f.waitToRestore.toNat,
        interval := max 1 (min 250 f.interval.toNat), phase := min (max 1 (min 250 f.interval.toNat) - 1) f.phase.toNat,
        multiplier := if f.multiplier.toNat = 1 then 2 else min 15 f.multiplier.toNat,
        setThreshold := min 32 f.setThreshold.toNat,
        clearThreshold := if min 32 f.setThreshold.toNat = 0 then 0
          else min (min 32 f.setThreshold.toNat - 1) f.clearThreshold.toNat, policy := p } := by
  have hinterval : clampTo 1 250 f.interval.toNat = max 1 (min 250 f.interval.toNat) := by
    unfold clampTo
    split
    · omega
    · split <;> omega
  have hmultiplier : (if f.multiplier.toNat = 0 then 0 else clampTo 2 15 f.multiplier.toNat) =
      if f.multiplier.toNat = 1 then 2 else min 15 f.multiplier.toNat := by
    unfold clampTo
    repeat' split
    all_goals omega
  simp only [clampSettings, clampTo_zero_eq, hinterval, hmultiplier]

/-- R8: a multiplier is held at 0 exactly if it is given as 0. -/
theorem clampSettings_multiplier (f : UplinkFields) (c : Option Conduit) (p : Policy) :
    (clampSettings f c p).multiplier = 0 ↔ f.multiplier = 0#8 := by
  rw [clampSettings_eq]
  have h0 : f.multiplier = 0#8 ↔ f.multiplier.toNat = 0 := by
    rw [← BitVec.toNat_inj]
    rfl
  rw [h0]
  simp only
  split <;> omega

/-- R167, R49: when no setting was clamped. -/
theorem settingsClamped_eq_false (f : UplinkFields) (x : Settings) :
    settingsClamped f x = false ↔
      x.lossQualify = f.lossQualify.toNat ∧ x.lightQualify = f.lightQualify.toNat ∧ x.holdOff = f.holdOff.toNat
        ∧ x.waitToRestore = f.waitToRestore.toNat ∧ x.interval = f.interval.toNat ∧ x.phase = f.phase.toNat
        ∧ x.multiplier = f.multiplier.toNat ∧ x.setThreshold = f.setThreshold.toNat
        ∧ (x.setThreshold ≠ 0 → x.clearThreshold = f.clearThreshold.toNat) := by
  unfold settingsClamped
  simp only [Bool.or_eq_false_iff, Bool.and_eq_false_iff, decide_eq_false_iff_not, ne_eq, not_not, and_assoc]
  have hlast : (x.setThreshold = 0 ∨ x.clearThreshold = f.clearThreshold.toNat) ↔
      (¬ x.setThreshold = 0 → x.clearThreshold = f.clearThreshold.toNat) := by tauto
  rw [hlast]

/-! ### The uplink after the settings (R29 to R31, R46, R49) -/

/-- Whether the clock starts is a matter of the settings and of what probed before. -/
theorem clockStarts_iff (old : UplinkState) (new : Settings) (now : Nat) (linkUp : Bool) :
    clockStarts old (old.applySettings new now linkUp) = clockStarts old { old with settings := new } := by
  obtain ⟨hs, -⟩ := old.applySettings_leaves new now linkUp
  obtain ⟨-, ha, -⟩ := old.applySettings_keepsHealth new now linkUp
  unfold clockStarts UplinkState.probing UplinkState.monitored
  rw [hs, ha]

/-- R27: with no probing before or after, the settings alone change. -/
theorem UplinkState.applySettings_idle {old : UplinkState} {new : Settings} (now : Nat) (linkUp : Bool)
    (ho : old.probing = false) (hn : ({ old with settings := new } : UplinkState).probing = false) :
    old.applySettings new now linkUp = { old with settings := new }
      ∧ clockStarts old { old with settings := new } = false := by
  have hstart : clockStarts old { old with settings := new } = false := by simp [clockStarts, hn]
  have hcross : old.crossMultiplier { old with settings := new } now linkUp = { old with settings := new } := by
    simp [UplinkState.crossMultiplier, ho, hn]
  refine ⟨?_, hstart⟩
  unfold UplinkState.applySettings
  simp only [hcross, hstart, hn, Bool.false_and, Bool.false_eq_true, if_false]

/-- R29, R31: probing begins. -/
theorem UplinkState.applySettings_begins {old : UplinkState} {new : Settings} (now : Nat) (linkUp : Bool)
    (ho : old.probing = false) (hn : ({ old with settings := new } : UplinkState).probing = true) :
    old.applySettings new now linkUp = ({ old with settings := new } : UplinkState).beginByMultiplier now linkUp
      ∧ clockStarts old { old with settings := new } = true := by
  have hcross : old.crossMultiplier { old with settings := new } now linkUp =
      ({ old with settings := new } : UplinkState).beginByMultiplier now linkUp := by
    simp [UplinkState.crossMultiplier, ho, hn]
  have hrestart : (({ old with settings := new } : UplinkState).beginByMultiplier now linkUp).restartClock now =
      ({ old with settings := new } : UplinkState).beginByMultiplier now linkUp := by
    unfold UplinkState.beginByMultiplier
    split <;> rfl
  have hdegrade : (({ old with settings := new } : UplinkState).beginByMultiplier now linkUp).evaluateDegrade =
      ({ old with settings := new } : UplinkState).beginByMultiplier now linkUp := by
    unfold UplinkState.beginByMultiplier UplinkState.evaluateDegrade
    split <;> rw [UplinkState.degradeDue_of_empty rfl rfl]
  refine ⟨?_, by simp [clockStarts, ho, hn]⟩
  unfold UplinkState.applySettings
  simp only [hcross, hrestart, hdegrade, ite_self]

/-- R30: probing ends. -/
theorem UplinkState.applySettings_ends {old : UplinkState} {new : Settings} (now : Nat) (linkUp : Bool)
    (ho : old.probing = true) (hn : ({ old with settings := new } : UplinkState).probing = false) :
    old.applySettings new now linkUp = ({ old with settings := new } : UplinkState).endProbing
      ∧ clockStarts old { old with settings := new } = false := by
  have hstart : ∀ x : UplinkState, x.probing = false → clockStarts old x = false := fun x hx => by
    simp [clockStarts, hx]
  have hcross : old.crossMultiplier { old with settings := new } now linkUp =
      ({ old with settings := new } : UplinkState).endProbing := by
    simp [UplinkState.crossMultiplier, ho, hn]
  have hend : (({ old with settings := new } : UplinkState).endProbing).probing = false := hn
  refine ⟨?_, hstart _ hn⟩
  unfold UplinkState.applySettings
  simp only [hcross, hstart _ hend, hend, Bool.false_and, Bool.false_eq_true, if_false]

/-- R31, R46: probing goes on; the clock restarts where the interval or the phase changes, and a changed threshold has
the degraded flag evaluated. -/
theorem UplinkState.applySettings_retimes {old : UplinkState} {new : Settings} (now : Nat) (linkUp : Bool)
    (ho : old.probing = true) (hn : ({ old with settings := new } : UplinkState).probing = true) :
    old.applySettings new now linkUp = { old with
        settings := new,
        clock := if clockStarts old { old with settings := new } then .running now 0 else old.clock,
        degraded := if old.settings.setThreshold ≠ new.setThreshold ∨ old.settings.clearThreshold ≠ new.clearThreshold
          then ({ old with settings := new } : UplinkState).degradeDue else old.degraded }
      ∧ (clockStarts old { old with settings := new } = true ↔
          new.interval ≠ old.settings.interval ∨ new.phase ≠ old.settings.phase) := by
  have hcross : old.crossMultiplier { old with settings := new } now linkUp = { old with settings := new } := by
    simp [UplinkState.crossMultiplier, ho, hn]
  have hclock : (if clockStarts old { old with settings := new } then
      ({ old with settings := new } : UplinkState).restartClock now else { old with settings := new }) =
      { old with
        settings := new,
        clock := if clockStarts old { old with settings := new } then .running now 0 else old.clock } := by
    split <;> rfl
  have hprobing : ∀ k, ({ old with settings := new, clock := k } : UplinkState).probing = true := fun _ => hn
  refine ⟨?_, ?_⟩
  · unfold UplinkState.applySettings
    simp only [hcross, hclock, hprobing, Bool.true_and, Bool.or_eq_true, decide_eq_true_eq]
    split <;> rfl
  · simp only [clockStarts, ho, hn, Bool.not_true, Bool.false_or, Bool.true_and, Bool.or_eq_true, decide_eq_true_eq]
    exact or_congr ne_comm ne_comm

/-- R40: SET-UPLINK loses no continuity, and it sets no received RDI. -/
theorem UplinkState.applySettings_sources (old : UplinkState) (new : Settings) (now : Nat) (linkUp : Bool) :
    ((old.applySettings new now linkUp).continuity = old.continuity
        ∨ (old.applySettings new now linkUp).continuity ≠ .lost)
      ∧ ((old.applySettings new now linkUp).rdi = old.rdi ∨ (old.applySettings new now linkUp).rdi = false) := by
  cases ho : old.probing <;> cases hn : ({ old with settings := new } : UplinkState).probing
  · rw [(UplinkState.applySettings_idle now linkUp ho hn).1]
    exact ⟨.inl rfl, .inl rfl⟩
  · rw [(UplinkState.applySettings_begins now linkUp ho hn).1]
    unfold UplinkState.beginByMultiplier
    split <;> exact ⟨.inr (by simp), .inr rfl⟩
  · rw [(UplinkState.applySettings_ends now linkUp ho hn).1]
    exact ⟨.inr (by simp [UplinkState.endProbing]), .inr rfl⟩
  · rw [(UplinkState.applySettings_retimes now linkUp ho hn).1]
    exact ⟨.inl rfl, .inl rfl⟩

/-- R22: of the latches SET-UPLINK can set SD-SEEN alone. -/
theorem UplinkState.latch_applySettings (old : UplinkState) (new : Settings) (now : Nat) (linkUp : Bool) :
    (old.latch (old.applySettings new now linkUp)).latches = { old.latches with
      sd := old.latches.sd || (!old.degraded && (old.applySettings new now linkUp).degraded) } := by
  obtain ⟨-, -, -, hq, -, -, hl⟩ := old.applySettings_leaves new now linkUp
  obtain ⟨hc, hr⟩ := old.applySettings_sources new now linkUp
  have hrdi : (!old.rdi && (old.applySettings new now linkUp).rdi) = false := by
    rcases hr with h | h
    · rw [h]
      cases old.rdi <;> rfl
    · rw [h, Bool.and_false]
  rw [UplinkState.latch_probe hq hl hc]
  simp only [hrdi, Bool.or_false]

/-- R29, R31: a clock that starts has been started at the present moment. -/
theorem UplinkState.applySettings_clock {old : UplinkState} {new : Settings} (now : Nat) (linkUp : Bool)
    (h : clockStarts old { old with settings := new } = true) :
    (old.applySettings new now linkUp).clock = .running now 0 := by
  cases ho : old.probing <;> cases hn : ({ old with settings := new } : UplinkState).probing
  · rw [(UplinkState.applySettings_idle now linkUp ho hn).2] at h
    cases h
  · rw [(UplinkState.applySettings_begins now linkUp ho hn).1]
    unfold UplinkState.beginByMultiplier
    split <;> rfl
  · rw [(UplinkState.applySettings_ends now linkUp ho hn).2] at h
    cases h
  · rw [(UplinkState.applySettings_retimes now linkUp ho hn).1, h]
    rfl

/-! ### The part after the settings (R170, R31) -/

/-- The part after a SET-UPLINK that writes `new`, before its reply. -/
def State.afterSettings (u : Uplink) (new : Settings) (s : State) : State :=
  let x := (s.uplink u).applySettings new s.clock.now s.fwd.linkUp
  if clockStarts (s.uplink u) { s.uplink u with settings := new } then (s.handOver u x).emitAtStart u
  else s.handOver u x

/-- R170: a SET-UPLINK that passes its checks. -/
theorem doSetUplink_good {s : State} {f : UplinkFields} {u : Uplink} {new : Settings}
    (h : judgeSettings f = .good (u, new)) :
    doSetUplink f s = (s.afterSettings u new, .ok (settingsClamped f new)
      (new.bytes ++ [((s.afterSettings u new).uplink u).health.code,
        flagByte ((s.afterSettings u new).uplink u).usable])) := by
  unfold State.afterSettings
  simp only [← clockStarts_iff (s.uplink u) new s.clock.now s.fwd.linkUp]
  unfold doSetUplink
  simp only [h]

theorem doSetUplink_bad {s : State} {f : UplinkFields} {e : OperandFault} (h : judgeSettings f = .bad e) :
    doSetUplink f s = (s, .invalid e.code e.slot) := by
  unfold doSetUplink
  rw [h]

/-- Of the part that the settings' handing over leaves, a SET-UPLINK changes what an emission may. -/
theorem State.afterSettings_emitted (u : Uplink) (new : Settings) (s : State) :
    ∃ seq clock probes, s.afterSettings u new =
      (s.handOver u ((s.uplink u).applySettings new s.clock.now s.fwd.linkUp)).emitted u seq clock probes := by
  unfold State.afterSettings
  simp only
  split
  · cases hk : ((s.handOver u ((s.uplink u).applySettings new s.clock.now s.fwd.linkUp)).uplink u).clock with
    | running start n => exact ⟨_, _, _, State.emitAtStart_running hk⟩
    | stopped =>
      refine ⟨_, _, _, Eq.trans ?_ (State.emitted_same _ u).symm⟩
      unfold State.emitAtStart
      split
      · exact State.emit_stopped hk
      · rfl
  · exact ⟨_, _, _, (State.emitted_same _ u).symm⟩

/-- R29 to R33, R49, R143: the uplink and the forwarding port after a SET-UPLINK: what the settings make of the uplink,
with the emission that a clock started with a phase of 0 makes. -/
theorem State.afterSettings_spec (u : Uplink) (new : Settings) (s : State) (x : UplinkState)
    (hx : x = (s.uplink u).applySettings new s.clock.now s.fwd.linkUp) (starts : Bool)
    (hstarts : clockStarts (s.uplink u) { s.uplink u with settings := new } = starts) :
    (∃ h ho wr a b, (s.afterSettings u new).uplink u = { (s.uplink u).latch x with
        health := h, holdOffTimer := ho, restoreTimer := wr, shunned := a, usable := b,
        outSeq := if starts = true ∧ new.phase = 0 then x.outSeq + 1#8 else x.outSeq,
        clock := if starts then .running s.clock.now (if new.phase = 0 then 1 else 0) else x.clock })
      ∧ (s.afterSettings u new).fwd =
        if starts = true ∧ new.phase = 0 ∧ s.fwd.linkUp = true then
          { s.fwd with probes := s.fwd.probes.filter (fun z => z.uplink ≠ u) ++
              [{ uplink := u, seq := x.outSeq, rdi := x.localDefect }] }
        else s.fwd := by
  obtain ⟨h, ho, wr, -, hfwd, -, hclk, ⟨⟨a, b, e⟩, -⟩⟩ := State.handOver_spec u x s
  unfold State.afterSettings
  simp only [← hx, hstarts]
  cases starts with
  | false => exact ⟨⟨h, ho, wr, a, b, e⟩, hfwd⟩
  | true =>
    have hset : x.settings = new := by rw [hx]; exact ((s.uplink u).applySettings_leaves new _ _).1
    have hclock : x.clock = .running s.clock.now 0 := by rw [hx]; exact UplinkState.applySettings_clock _ _ hstarts
    have hrun : ((s.handOver u x).uplink u).clock = .running s.clock.now 0 := by rw [e]; exact hclock
    have hphase : ((s.handOver u x).uplink u).settings.phase = new.phase := by rw [e, ← hset]; rfl
    have hseq : ((s.handOver u x).uplink u).outSeq = x.outSeq := by rw [e]; rfl
    have hrdi : ((s.handOver u x).uplink u).localDefect = x.localDefect := by rw [e]; rfl
    simp only [if_true, true_and]
    rw [State.emitAtStart_running hrun, hphase, hseq, hrdi, hfwd, State.uplink_emitted_self, e,
      State.fwd_emitted _ _ _ hfwd]
    refine ⟨⟨h, ho, wr, a, b, by simp⟩, ?_⟩
    split <;> rfl

end Sys2Proof.Machine
end

section
/-! What SET-UPLINK writes and leaves (O18). -/

namespace Sys2Proof.Machine

/-! ### The frame of a SET-UPLINK -/

/-- What a SET-UPLINK leaves beyond the uplink's own record. -/
theorem State.afterSettings_frame (u : Uplink) (new : Settings) (s : State) :
    s.SameBeyondUplinks (s.afterSettings u new) ∧ (s.afterSettings u new).control = s.control
      ∧ (s.afterSettings u new).clock = s.clock
      ∧ (s.afterSettings u new).fwd = { s.fwd with probes := (s.afterSettings u new).fwd.probes }
      ∧ ∀ v, v ≠ u → ∃ a b, (s.afterSettings u new).uplink v = { s.uplink v with shunned := a, usable := b } := by
  obtain ⟨seq, clock, probes, e⟩ := State.afterSettings_emitted u new s
  obtain ⟨h, ho, wr, hsame, hfwd, hctl, hclk, hbec⟩ :=
    State.handOver_spec u ((s.uplink u).applySettings new s.clock.now s.fwd.linkUp) s
  rw [e]
  refine ⟨State.sameBeyondUplinks_emitted seq clock probes hsame, hctl, hclk, ?_,
    (State.uplinkBecomes_emitted seq clock probes hbec).2⟩
  rw [State.fwd_emitted seq clock probes hfwd]

/-- The settings, the filter and the admin mode after a SET-UPLINK (R49). -/
theorem State.afterSettings_leaves (u : Uplink) (new : Settings) (s : State) :
    ((s.afterSettings u new).uplink u).settings = new
      ∧ ((s.afterSettings u new).uplink u).losPin = (s.uplink u).losPin
      ∧ ((s.afterSettings u new).uplink u).rawLos = (s.uplink u).rawLos
      ∧ ((s.afterSettings u new).uplink u).qualLos = (s.uplink u).qualLos
      ∧ ((s.afterSettings u new).uplink u).lossTimer = (s.uplink u).lossTimer
      ∧ ((s.afterSettings u new).uplink u).lightTimer = (s.uplink u).lightTimer
      ∧ ((s.afterSettings u new).uplink u).admin = (s.uplink u).admin := by
  obtain ⟨⟨h, ho, wr, a, b, e⟩, -⟩ := State.afterSettings_spec u new s _ rfl _ rfl
  obtain ⟨hset, hpin, hraw, hqual, hloss, hlight, -⟩ :=
    (s.uplink u).applySettings_leaves new s.clock.now s.fwd.linkUp
  obtain ⟨-, hadmin, -⟩ := (s.uplink u).applySettings_keepsHealth new s.clock.now s.fwd.linkUp
  rw [e]
  exact ⟨hset, hpin, hraw, hqual, hloss, hlight, hadmin⟩

/-- R27: without probing, before and after, the settings have no part in the defect set, and no latch is set. -/
theorem UplinkState.protect_settings {old : UplinkState} {new : Settings} (u : Uplink) (now : Nat)
    (ho : old.probing = false) (hn : ({ old with settings := new } : UplinkState).probing = false) :
    (old.latch { old with settings := new }).protect u now old.defects = ({ old with settings := new }, []) := by
  have hlatch : old.latch { old with settings := new } = { old with settings := new } := by
    rw [UplinkState.latch_probe (old := old) (x := { old with settings := new }) rfl rfl (.inl rfl)]
    simp
  have hdefects : old.defects = ({ old with settings := new } : UplinkState).defects := by
    simp [UplinkState.defects, ho, hn]
  rw [hlatch, UplinkState.protect, if_pos hdefects]

/-- R49: on a DISABLED uplink a SET-UPLINK writes the settings and no more. -/
theorem State.afterSettings_disabled {u : Uplink} {s : State} (new : Settings)
    (hm : (s.uplink u).monitored = false) :
    (s.afterSettings u new).fwd = s.fwd
      ∧ ∃ a b, (s.afterSettings u new).uplink u = { s.uplink u with settings := new, shunned := a, usable := b } := by
  have ho : (s.uplink u).probing = false := by simp [UplinkState.probing, hm]
  have hn : ({ s.uplink u with settings := new } : UplinkState).probing = false := by
    rw [UplinkState.probing, show ({ s.uplink u with settings := new } : UplinkState).monitored = false from hm,
      Bool.false_and]
  obtain ⟨hx, hstart⟩ := UplinkState.applySettings_idle s.clock.now s.fwd.linkUp ho hn
  have hafter : s.afterSettings u new = s.handOver u { s.uplink u with settings := new } := by
    unfold State.afterSettings
    simp only [hstart, hx, Bool.false_eq_true, if_false]
  obtain ⟨-, -, -, -, hfwd, -⟩ := State.handOver_spec u { s.uplink u with settings := new } s
  obtain ⟨hbec, -⟩ := State.handOver_becomes u { s.uplink u with settings := new } s
  rw [UplinkState.protect_settings u s.clock.now ho hn] at hbec
  rw [hafter]
  exact ⟨hfwd, hbec⟩

/-- R170: a SET-UPLINK that fails a check is answered INVALID, and no more. -/
theorem setUplink_refused {s : State} {f : UplinkFields} {e : OperandFault} (tag : Byte) (hs : s.PortFree)
    (he : judgeSettings f = .bad e) :
    ∃ t, exec (.setUplink tag f) s = .next t ∧ t = { s with control := t.control }
      ∧ s.Answers t 0x10#8 tag (.invalid e.code e.slot) := by
  rw [exec_setUplink hs, doSetUplink_bad he]
  exact ⟨_, rfl, rfl, State.answers_finish _ _ _ rfl⟩

/-- Settles O18. -/
theorem setUplinkWritesClampedSettings : Obligations.SetUplinkWritesClampedSettings := by
  intro tag f s hs
  refine ⟨fun hb => setUplink_refused tag hs (e := { code := .uplink, slot := none }) (judgeSettings_uplink hb),
    fun hb hc hff => setUplink_refused tag hs (e := { code := .conduit, slot := none }) ?_,
    fun hb hc hp => setUplink_refused tag hs (e := { code := .mode, slot := none }) ?_, fun u c p hu hc hp => ?_⟩
  · unfold judgeSettings
    rw [judgeUplink_some (u := ⟨f.uplink.toNat, by omega⟩) rfl, judgeMembership_none hc hff]
  · obtain ⟨c, hmem⟩ := judgeMembership_exists hc.symm
    unfold judgeSettings
    rw [judgeUplink_some (u := ⟨f.uplink.toNat, by omega⟩) rfl, hmem]
    simp only [judgePolicy_none hp]
  · intro interval multiplier threshold new
    obtain ⟨hmem, hcode⟩ := judgeMembership_some hc
    obtain ⟨hpol, hpcode⟩ := judgePolicy_some hp
    have hgood : judgeSettings f = .good (u, new) :=
      judgeSettings_good.2 ⟨judgeUplink_some hu, c, p, hmem, hpol, (clampSettings_eq f c p).symm⟩
    rw [exec_setUplink hs, doSetUplink_good hgood]
    obtain ⟨hsame, hctl, hclk, hfwd, hothers⟩ := State.afterSettings_frame u new s
    obtain ⟨hset, hpin, hraw, hqual, hloss, hlight, hadmin⟩ := State.afterSettings_leaves u new s
    have hthreshold : new.setThreshold ≠ 0 ↔ f.setThreshold.toNat ≠ 0 := by
      show min 32 f.setThreshold.toNat ≠ 0 ↔ _
      omega
    have hconduit : conduitCode new.conduit = f.conduit := hcode
    have hpolicy : new.policy.code = f.policy := hpcode
    clear_value new
    refine ⟨_, settingsClamped f new, rfl, State.sameBeyondUplinks_finish hsame, hclk, hfwd, hset,
      State.afterSettings_disabled new, hothers, hpin, hraw, hqual, hloss, hlight, hadmin, ?_, ?_⟩
    · rw [settingsClamped_eq_false, hthreshold]
    · have hbytes : ∀ h y : Byte, new.bytes ++ [h, y] = [f.conduit] ++ be16 new.lossQualify ++ be16 new.lightQualify
          ++ be16 new.holdOff ++ be16 new.waitToRestore ++ [byte new.interval, byte new.phase, byte new.multiplier,
            byte new.setThreshold, byte new.clearThreshold, f.policy, h, y] := fun h y => by
        rw [Settings.bytes, hconduit, hpolicy]
        simp only [List.append_assoc, List.cons_append, List.nil_append]
      rw [hbytes]
      exact State.answers_finish _ _ _ hctl

end Sys2Proof.Machine
end

section
/-! What SET-UPLINK does to probing (O19). -/

namespace Sys2Proof.Machine

/-! ### The probe state after a SET-UPLINK -/

/-- R29, R30, R31: no SET-UPLINK moves the outgoing sequence by its settings. -/
theorem UplinkState.applySettings_outSeq (old : UplinkState) (new : Settings) (now : Nat) (linkUp : Bool) :
    (old.applySettings new now linkUp).outSeq = old.outSeq := by
  cases ho : old.probing <;> cases hn : ({ old with settings := new } : UplinkState).probing
  · rw [(UplinkState.applySettings_idle now linkUp ho hn).1]
  · rw [(UplinkState.applySettings_begins now linkUp ho hn).1]
    unfold UplinkState.beginByMultiplier
    split <;> rfl
  · rw [(UplinkState.applySettings_ends now linkUp ho hn).1]
    rfl
  · rw [(UplinkState.applySettings_retimes now linkUp ho hn).1]

/-- R29, R30, R46: the probe state but for the sequence and the clock is what the settings make of it. -/
theorem State.afterSettings_probe (u : Uplink) (new : Settings) (s : State) (x : UplinkState)
    (hx : (s.uplink u).applySettings new s.clock.now s.fwd.linkUp = x) :
    ((s.afterSettings u new).uplink u).lastAccepted = x.lastAccepted
      ∧ ((s.afterSettings u new).uplink u).errored = x.errored
      ∧ ((s.afterSettings u new).uplink u).continuity = x.continuity
      ∧ ((s.afterSettings u new).uplink u).deadline = x.deadline
      ∧ ((s.afterSettings u new).uplink u).rdi = x.rdi
      ∧ ((s.afterSettings u new).uplink u).window = x.window
      ∧ ((s.afterSettings u new).uplink u).degraded = x.degraded := by
  obtain ⟨⟨h, ho, wr, a, b, e⟩, -⟩ := State.afterSettings_spec u new s x hx.symm _ rfl
  rw [e]
  exact ⟨rfl, rfl, rfl, rfl, rfl, rfl, rfl⟩

/-- R22: the latches after a SET-UPLINK. -/
theorem State.afterSettings_latches (u : Uplink) (new : Settings) (s : State) :
    ((s.afterSettings u new).uplink u).latches = { (s.uplink u).latches with
      sd := (s.uplink u).latches.sd || (!(s.uplink u).degraded && ((s.afterSettings u new).uplink u).degraded) } := by
  obtain ⟨⟨h, ho, wr, a, b, e⟩, -⟩ := State.afterSettings_spec u new s _ rfl _ rfl
  have hlatch := (s.uplink u).latch_applySettings new s.clock.now s.fwd.linkUp
  rw [e]
  exact hlatch

/-- R31: where no clock starts, nothing is emitted. -/
theorem State.afterSettings_quiet {u : Uplink} {new : Settings} {s : State}
    (h : clockStarts (s.uplink u) { s.uplink u with settings := new } = false) :
    ((s.afterSettings u new).uplink u).clock =
        ((s.uplink u).applySettings new s.clock.now s.fwd.linkUp).clock
      ∧ ((s.afterSettings u new).uplink u).outSeq = (s.uplink u).outSeq
      ∧ (s.afterSettings u new).fwd = s.fwd := by
  obtain ⟨⟨h, ho, wr, a, b, e⟩, hfwd⟩ := State.afterSettings_spec u new s _ rfl _ h
  rw [e, hfwd]
  simp only [UplinkState.applySettings_outSeq, Bool.false_eq_true, false_and, if_false, and_self]

/-- R31, R32, R33, R143: where a clock starts, a phase of 0 emits in the same step; `y` is the uplink after it. -/
theorem State.afterSettings_starts {u : Uplink} {new : Settings} {s : State} {y : UplinkState}
    (h : clockStarts (s.uplink u) { s.uplink u with settings := new } = true)
    (hy : (s.afterSettings u new).uplink u = y) :
    y.clock = .running s.clock.now (if y.settings.phase = 0 then 1 else 0)
      ∧ y.outSeq = (if y.settings.phase = 0 then (s.uplink u).outSeq + 1#8 else (s.uplink u).outSeq)
      ∧ (s.afterSettings u new).fwd = if y.settings.phase = 0 ∧ s.fwd.linkUp = true then
          { s.fwd with probes := s.fwd.probes.filter (fun z => z.uplink ≠ u) ++
            [{ uplink := u, seq := (s.uplink u).outSeq,
               rdi := (s.uplink u).qualLos || decide (y.continuity = .lost ∨ y.continuity = .notEstablished) }] }
        else s.fwd := by
  obtain ⟨x, hx⟩ : ∃ x, (s.uplink u).applySettings new s.clock.now s.fwd.linkUp = x := ⟨_, rfl⟩
  obtain ⟨⟨h, ho, wr, a, b, e⟩, hfwd⟩ := State.afterSettings_spec u new s x hx.symm _ h
  obtain ⟨hset, -, -, hqual, -⟩ := (s.uplink u).applySettings_leaves new s.clock.now s.fwd.linkUp
  have hseq := (s.uplink u).applySettings_outSeq new s.clock.now s.fwd.linkUp
  rw [hx] at hset hqual hseq
  rw [hy] at e
  have hcont : y.continuity = x.continuity := by rw [e]; rfl
  have hphase : y.settings.phase = new.phase := by rw [e, ← hset]; rfl
  have hrdi : x.localDefect =
      ((s.uplink u).qualLos || decide (x.continuity = .lost ∨ x.continuity = .notEstablished)) := by
    rw [UplinkState.localDefect, hqual, Bool.decide_or, Bool.or_assoc]
  rw [hcont, hphase, hfwd, hrdi, e, hseq]
  simp only [if_true, true_and, and_self]

/-- R47, R48, R53: the events of a SET-UPLINK. -/
theorem State.afterSettings_reports (u : Uplink) (new : Settings) (s : State) :
    s.Queues (s.afterSettings u new) u
      (s.degradeReport (s.afterSettings u new) u ++ s.healthReport (s.afterSettings u new) u) := by
  obtain ⟨seq, clock, probes, e⟩ := State.afterSettings_emitted u new s
  obtain ⟨t, ht⟩ : ∃ t, s.handOver u ((s.uplink u).applySettings new s.clock.now s.fwd.linkUp) = t := ⟨_, rfl⟩
  obtain ⟨hhealth, -⟩ := (s.uplink u).applySettings_keepsHealth new s.clock.now s.fwd.linkUp
  have hq := State.handOver_reports (u := u) hhealth
  have hself := State.uplink_emitted_self t u seq clock probes
  rw [ht] at hq e
  have hreports : s.degradeReport (t.emitted u seq clock probes) u ++ s.healthReport (t.emitted u seq clock probes) u =
      s.degradeReport t u ++ s.healthReport t u := by
    unfold State.degradeReport State.healthReport
    rw [hself]
    rfl
  rw [e, hreports]
  exact State.queues_emitted seq clock probes hq

/-- R46: the degraded flag due on an uplink that is not degraded, and on one that is. -/
theorem UplinkState.degradeDue_iff (x : UplinkState) :
    (x.degraded = false →
        (x.degradeDue = true ↔ x.settings.setThreshold ≠ 0 ∧ x.settings.setThreshold ≤ nonGood x.window))
      ∧ (x.degraded = true →
        (x.degradeDue = false ↔ x.settings.setThreshold = 0 ∨ nonGood x.window ≤ x.settings.clearThreshold)) := by
  unfold UplinkState.degradeDue
  by_cases h : x.settings.setThreshold = 0
  · simp [h]
  · refine ⟨fun hd => ?_, fun hd => ?_⟩ <;> simp [h, hd]

/-- R29: the probe state that a multiplier from 0 begins with, in START and in every other health. -/
theorem UplinkState.beginByMultiplier_probe (x : UplinkState) (now : Nat) (linkUp : Bool) :
    (x.beginByMultiplier now linkUp).lastAccepted = none ∧ (x.beginByMultiplier now linkUp).errored = 0
      ∧ (x.beginByMultiplier now linkUp).rdi = false ∧ (x.beginByMultiplier now linkUp).window = []
      ∧ (x.beginByMultiplier now linkUp).degraded = false
      ∧ (x.health = .start → (x.beginByMultiplier now linkUp).continuity = .notEstablished
          ∧ (x.beginByMultiplier now linkUp).deadline = .stopped)
      ∧ (x.health ≠ .start → (x.beginByMultiplier now linkUp).continuity = .established
          ∧ (x.beginByMultiplier now linkUp).deadline =
            if linkUp then .running (now + x.settings.multiplier * x.settings.interval * 1000) else .suspended) := by
  unfold UplinkState.beginByMultiplier
  by_cases h : x.health = .start
  · rw [if_pos h]
    exact ⟨rfl, rfl, rfl, rfl, rfl, fun _ => ⟨rfl, rfl⟩, fun hn => absurd h hn⟩
  · rw [if_neg h]
    exact ⟨rfl, rfl, rfl, rfl, rfl, fun hs => absurd hs h, fun _ => ⟨rfl, rfl⟩⟩

/-- R27, R46: where probing goes on, the probe state stays but for the clock and the degraded flag, and a changed
threshold alone has the flag evaluated. -/
theorem UplinkState.applySettings_continues {old x : UplinkState} {new : Settings} (now : Nat) (linkUp : Bool)
    (ho : old.probing = true) (hn : ({ old with settings := new } : UplinkState).probing = true)
    (hx : old.applySettings new now linkUp = x) :
    let kept := new.setThreshold = old.settings.setThreshold ∧ new.clearThreshold = old.settings.clearThreshold
    x.continuity = old.continuity ∧ x.deadline = old.deadline ∧ x.rdi = old.rdi ∧ x.window = old.window
      ∧ x.lastAccepted = old.lastAccepted ∧ x.errored = old.errored
      ∧ (kept → x.degraded = old.degraded)
      ∧ (¬ kept → old.degraded = false →
          (x.degraded = true ↔ new.setThreshold ≠ 0 ∧ new.setThreshold ≤ nonGood x.window))
      ∧ (¬ kept → old.degraded = true →
          (x.degraded = false ↔ new.setThreshold = 0 ∨ nonGood x.window ≤ new.clearThreshold)) := by
  obtain ⟨hform, -⟩ := UplinkState.applySettings_retimes (old := old) (new := new) now linkUp ho hn
  obtain ⟨hset, hclear⟩ := ({ old with settings := new } : UplinkState).degradeDue_iff
  rw [← hx, hform]
  refine ⟨rfl, rfl, rfl, rfl, rfl, rfl, fun ⟨hs, hc⟩ => ?_, fun hk => ?_, fun hk => ?_⟩ <;> simp only
  · rw [if_neg (by simp [hs, hc])]
  · rw [if_pos ((not_and_or.1 hk).imp Ne.symm Ne.symm)]
    exact hset
  · rw [if_pos ((not_and_or.1 hk).imp Ne.symm Ne.symm)]
    exact hclear

/-- Settles O19. -/
theorem setUplinkStartsAndEndsProbing : Obligations.SetUplinkStartsAndEndsProbing := by
  intro tag f u s hs hu hc hp hm x
  obtain ⟨c, hmem⟩ : ∃ c, judgeMembership f.conduit = some c := judgeMembership_exists hc
  obtain ⟨p, hpol⟩ : ∃ p, judgePolicy f.policy = some p := judgePolicy_exists hp
  obtain ⟨new, hnew⟩ : ∃ new, clampSettings f c p = new := ⟨_, rfl⟩
  have hmul : new.multiplier = 0 ↔ f.multiplier = 0#8 := by rw [← hnew]; exact clampSettings_multiplier f c p
  rw [exec_setUplink hs, doSetUplink_good (judgeSettings_good.2 ⟨judgeUplink_some hu, c, p, hmem, hpol, hnew.symm⟩)]
  refine ⟨_, rfl, ?_⟩
  have hold : x.probing = decide (x.settings.multiplier ≠ 0) := by rw [UplinkState.probing, hm, Bool.true_and]
  have hnext : ({ x with settings := new } : UplinkState).probing = decide (new.multiplier ≠ 0) := by
    rw [UplinkState.probing, show ({ x with settings := new } : UplinkState).monitored = true from hm, Bool.true_and]
  obtain ⟨x', hx'⟩ : ∃ x', x.applySettings new s.clock.now s.fwd.linkUp = x' := ⟨_, rfl⟩
  obtain ⟨hlast, herr, hcont, hdead, hrdi, hwin, hdeg⟩ := State.afterSettings_probe u new s x' hx'
  obtain ⟨hset, -⟩ := State.afterSettings_leaves u new s
  refine ⟨State.queues_finish (State.afterSettings_reports u new s), State.afterSettings_latches u new s,
    fun h0 hf => ?_, fun h0 hf => ?_, fun h0 hf => ?_, fun h0 hf => ?_⟩
  · obtain ⟨hform, hstart⟩ := UplinkState.applySettings_idle (old := x) (new := new) s.clock.now s.fwd.linkUp
      (by simpa [hold] using h0) (by simpa [hnext, hmul] using hf)
    obtain ⟨hclk, hseq, hfwd⟩ := State.afterSettings_quiet hstart
    rw [hx'] at hclk hform
    subst hform
    exact ⟨hclk, hseq, hlast, herr, hcont, hdead, hrdi, hwin, hdeg, hfwd⟩
  · obtain ⟨hform, hstart⟩ := UplinkState.applySettings_begins (old := x) (new := new) s.clock.now s.fwd.linkUp
      (by simpa [hold] using h0) (by simpa [hnext, hmul] using hf)
    obtain ⟨hclk, hseq, hfwd⟩ := State.afterSettings_starts hstart rfl
    rw [hx'] at hform
    obtain ⟨xlast, xerr, xrdi, xwin, xdeg, xstart, xother⟩ :=
      UplinkState.beginByMultiplier_probe { x with settings := new } s.clock.now s.fwd.linkUp
    rw [← hform] at xlast xerr xrdi xwin xdeg xstart xother
    refine ⟨hlast.trans xlast, herr.trans xerr, hrdi.trans xrdi, hwin.trans xwin, hdeg.trans xdeg, hclk, hseq, hfwd,
      fun hh => ?_, fun hh => ?_⟩
    · obtain ⟨hc, hd⟩ := xstart hh
      exact ⟨hcont.trans hc, hdead.trans hd⟩
    · obtain ⟨hc, hd⟩ := xother hh
      rw [show ({ x with settings := new } : UplinkState).settings = new from rfl, ← hset] at hd
      exact ⟨hcont.trans hc, hdead.trans hd⟩
  · obtain ⟨hform, hstart⟩ := UplinkState.applySettings_ends (old := x) (new := new) s.clock.now s.fwd.linkUp
      (by simpa [hold] using h0) (by simpa [hnext, hmul] using hf)
    obtain ⟨hclk, hseq, hfwd⟩ := State.afterSettings_quiet hstart
    rw [hx'] at hclk hform
    subst hform
    exact ⟨hclk, hdead, hcont, hrdi, hwin, hdeg, hlast, herr, hseq, hfwd⟩
  · obtain ⟨hform, hstart⟩ := UplinkState.applySettings_retimes (old := x) (new := new) s.clock.now s.fwd.linkUp
      (by simpa [hold] using h0) (by simpa [hnext, hmul] using hf)
    obtain ⟨kcont, kdead, krdi, kwin, klast, kerr, hkept, hraised, hcleared⟩ := UplinkState.applySettings_continues
      (old := x) (new := new) s.clock.now s.fwd.linkUp (by simpa [hold] using h0) (by simpa [hnext, hmul] using hf) hx'
    rw [← hset, ← hdeg] at hkept hraised hcleared
    rw [← hwin] at hraised hcleared
    have hchange : clockStarts x { x with settings := new } = true ↔
        ((s.afterSettings u new).uplink u).settings.interval ≠ x.settings.interval
          ∨ ((s.afterSettings u new).uplink u).settings.phase ≠ x.settings.phase := by
      rw [hset]
      exact hstart
    refine ⟨hcont.trans kcont, hdead.trans kdead, hrdi.trans krdi, hwin.trans kwin, hlast.trans klast,
      herr.trans kerr, hkept, hraised, hcleared, fun hi hph => ?_,
      fun hch => State.afterSettings_starts (hchange.2 hch) rfl⟩
    have hquiet : clockStarts x { x with settings := new } = false :=
      Bool.eq_false_iff.2 fun h => (hchange.1 h).elim (absurd hi) (absurd hph)
    obtain ⟨hclk, hseq, hfwd⟩ := State.afterSettings_quiet hquiet
    refine ⟨hclk.trans ?_, hseq, hfwd⟩
    rw [hform, hquiet]
    rfl

end Sys2Proof.Machine
end

section
/-! The protection table after every event on the defect set (O8). -/

namespace Sys2Proof.Machine

/-- What a step on uplink `u` from `s` to `t` owes the protection table: health and its timers, and the events. -/
def State.ActsByTable (s t : State) (u : Uplink) : Prop :=
  (s.uplink u).FollowsTable (t.uplink u) t.clock.now
    ∧ s.Queues t u (s.degradeReport t u ++ s.healthReport t u)

/-- A change handed to the machine acts by the table. -/
theorem State.handOver_actsByTable {s : State} {u : Uplink} {x : UplinkState} (hs : (s.uplink u).HealthSound)
    (hk : (s.uplink u).KeepsHealth x) : s.ActsByTable (s.handOver u x) u := by
  obtain ⟨-, -, -, -, -, -, hclk, -⟩ := State.handOver_spec u x s
  refine ⟨?_, State.handOver_reports hk.1⟩
  rw [hclk]
  exact State.handOver_followsTable hs hk

/-- So it does at the moment of an expiry. -/
theorem State.actsByTable_of_advanceTo {s t : State} {u : Uplink} {e : Nat} (h : (s.advanceTo e).ActsByTable t u) :
    s.ActsByTable t u := ⟨h.1, State.queues_of_advanceTo h.2⟩

/-- An event that moves no defect source, and reports nothing, acts by the table. -/
theorem State.actsByTable_of_keeps {s t : State} {u : Uplink} (hs : (s.uplink u).HealthSound)
    (hk : (s.uplink u).KeepsHealth (t.uplink u)) (hd : (t.uplink u).defects = (s.uplink u).defects)
    (hdeg : (t.uplink u).degraded = (s.uplink u).degraded) (he : t.events = s.events) (hc : t.conduits = s.conduits) :
    s.ActsByTable t u :=
  ⟨UplinkState.followsTable_of_keeps _ hs hk hd, State.queues_nothing he hc hk.1 hdeg⟩

theorem State.actsByTable_refl {s : State} {u : Uplink} (hs : (s.uplink u).HealthSound) : s.ActsByTable s u :=
  State.actsByTable_of_keeps hs ⟨rfl, rfl, rfl, rfl⟩ rfl rfl rfl rfl

/-- A DISABLED uplink, or one whose raw LOS has the level, takes an edge without a defect moving. -/
theorem State.setUplink_actsByTable {s : State} {u : Uplink} {x : UplinkState} (hs : (s.uplink u).HealthSound)
    (hk : (s.uplink u).KeepsHealth x) (hd : x.defects = (s.uplink u).defects)
    (hdeg : x.degraded = (s.uplink u).degraded) : s.ActsByTable (s.setUplink u x) u := by
  have e := State.uplink_setUplink_self s u x
  exact State.actsByTable_of_keeps hs (by rw [e]; exact hk) (by rw [e]; exact hd) (by rw [e]; exact hdeg)
    (by simp) (by simp)

/-! ### The events one by one -/

/-- R2, R3: an edge of raw LOS. -/
theorem losEdge_actsByTable {s : State} {u : Uplink} (level : Bool) (hr : s.resetHeld = false)
    (hs : (s.uplink u).HealthSound) : s.ActsByTable (losEdge u level s) u := by
  by_cases hl : (s.uplink u).rawLos = level
  · rw [losEdge_pin (.inr hl)]
    exact State.setUplink_actsByTable hs ⟨rfl, rfl, rfl, rfl⟩ rfl rfl
  · by_cases hm : (s.uplink u).monitored = true
    · rw [losEdge_monitored hr hl hm]
      exact State.handOver_actsByTable hs ((s.uplink u).losEdged_keeps level s.clock.now).1
    · rw [losEdge_disabled hr hl (by simpa using hm)]
      exact State.setUplink_actsByTable hs ⟨rfl, rfl, rfl, rfl⟩ rfl rfl

/-- R4: the expiry of the loss-qualify timer. -/
theorem lossQualifyExpiry_actsByTable {s : State} {u : Uplink} (hs : (s.uplink u).HealthSound) :
    s.ActsByTable (lossQualifyExpiry u s) u := by
  cases ht : (s.uplink u).lossTimer with
  | none =>
    rw [lossQualifyExpiry_stopped ht]
    exact State.actsByTable_refl hs
  | some e =>
    rw [lossQualifyExpiry_running ht]
    exact State.actsByTable_of_advanceTo (State.handOver_actsByTable (s := s.advanceTo e) hs ⟨rfl, rfl, rfl, rfl⟩)

/-- R5: the expiry of the light-qualify timer. -/
theorem lightQualifyExpiry_actsByTable {s : State} {u : Uplink} (hs : (s.uplink u).HealthSound) :
    s.ActsByTable (lightQualifyExpiry u s) u := by
  cases ht : (s.uplink u).lightTimer with
  | none =>
    rw [lightQualifyExpiry_stopped ht]
    exact State.actsByTable_refl hs
  | some e =>
    rw [lightQualifyExpiry_running ht]
    exact State.actsByTable_of_advanceTo (State.handOver_actsByTable (s := s.advanceTo e) hs ⟨rfl, rfl, rfl, rfl⟩)

/-- R40: the expiry of the continuity deadline. -/
theorem continuityDeadlineExpiry_actsByTable {s : State} {u : Uplink} (hs : (s.uplink u).HealthSound) :
    s.ActsByTable (continuityDeadlineExpiry u s) u := by
  cases hd : (s.uplink u).deadline with
  | stopped =>
    rw [continuityDeadlineExpiry_stopped (.inl hd)]
    exact State.actsByTable_refl hs
  | suspended =>
    rw [continuityDeadlineExpiry_stopped (.inr hd)]
    exact State.actsByTable_refl hs
  | running e =>
    rw [continuityDeadlineExpiry_running hd]
    exact State.actsByTable_of_advanceTo (State.handOver_actsByTable (s := s.advanceTo e) hs ⟨rfl, rfl, rfl, rfl⟩)

/-- R49: a SET-UPLINK that writes its settings. -/
theorem State.afterSettings_actsByTable {s : State} {u : Uplink} (new : Settings) (hs : (s.uplink u).HealthSound) :
    s.ActsByTable (s.afterSettings u new) u := by
  refine ⟨?_, State.afterSettings_reports u new s⟩
  obtain ⟨-, -, hclk, -⟩ := State.afterSettings_frame u new s
  obtain ⟨seq, clock, probes, e⟩ := State.afterSettings_emitted u new s
  rw [hclk, e, State.uplink_emitted_self]
  exact State.handOver_followsTable hs ((s.uplink u).applySettings_keepsHealth new s.clock.now s.fwd.linkUp)

/-- R49, R170: a SET-UPLINK, refused or not. -/
theorem setUplink_actsByTable {s : State} {u : Uplink} {f : UplinkFields} (tag : Byte)
    (hu : judgeUplink f.uplink = some u) (hs : (s.uplink u).HealthSound) :
    s.ActsByTable (finish 0x10#8 tag (doSetUplink f s)) u := by
  cases hj : judgeSettings f with
  | bad e =>
    rw [doSetUplink_bad hj]
    exact State.actsByTable_refl hs
  | good r =>
    obtain ⟨v, new⟩ := r
    obtain ⟨hv, -⟩ := judgeSettings_good.1 hj
    obtain rfl : u = v := Option.some.inj (hu.symm.trans hv)
    rw [doSetUplink_good hj]
    exact State.afterSettings_actsByTable new hs

/-! ### A PROBE-IN -/

/-- R42, R139: of an uplink the acceptance of a record moves the deadline alone, and time stands still. -/
theorem State.acceptRecord_uplink (k : InKind) (u : Uplink) (s : State) :
    (∃ d, (s.acceptRecord k).uplink u = { s.uplink u with deadline := d })
      ∧ (s.acceptRecord k).clock = s.clock := by
  unfold State.acceptRecord
  split
  · exact ⟨⟨_, rfl⟩, rfl⟩
  · refine ⟨?_, rfl⟩
    have e : ((s.linkComesUp k).restartSilence).uplink u = (s.uplink u).resumeDeadline s.clock.now :=
      vector_get_ofFn _ u
    rw [e]
    unfold UplinkState.resumeDeadline
    split
    · exact ⟨_, rfl⟩
    · exact ⟨_, rfl⟩

/-- R34 to R38: a PROBE-IN, and whatever else its bytes make of it (log entry 6), leaves health and its timers as the
table says. -/
theorem recordArrival_followsTable {s : State} (r : Record) (hs : (s.uplink r.probeUplink).HealthSound) :
    (s.uplink r.probeUplink).FollowsTable ((recordArrival r s).uplink r.probeUplink) (recordArrival r s).clock.now := by
  unfold recordArrival
  cases r.classify with
  | faulty p => exact (State.actsByTable_refl hs).1
  | valid k =>
    obtain ⟨t, ht⟩ : ∃ t, s.acceptRecord k = t := ⟨_, rfl⟩
    obtain ⟨⟨d, hd⟩, hclk⟩ := s.acceptRecord_uplink k r.probeUplink
    rw [ht] at hd hclk
    have hkeeps : (s.uplink r.probeUplink).KeepsHealth (t.uplink r.probeUplink) := by
      rw [hd]
      exact ⟨rfl, rfl, rfl, rfl⟩
    have hdefects : (t.uplink r.probeUplink).defects = (s.uplink r.probeUplink).defects := by
      rw [hd]
      rfl
    have hsound : (t.uplink r.probeUplink).HealthSound := by
      rw [hd]
      exact hs
    simp only [ht]
    cases k with
    | sync => exact UplinkState.followsTable_of_keeps _ hs hkeeps hdefects
    | lookupReq =>
      have hu : (t.laneArrival (Record.request r)).uplink r.probeUplink = t.uplink r.probeUplink := by
        unfold State.uplink
        rw [(State.laneArrival_sameMonitor _ t).1]
      show (s.uplink r.probeUplink).FollowsTable ((t.laneArrival (Record.request r)).uplink r.probeUplink) _
      rw [hu]
      exact UplinkState.followsTable_of_keeps _ hs hkeeps hdefects
    | probeIn =>
      exact UplinkState.followsTable_congr hkeeps (State.handOver_actsByTable hsound
        (UplinkState.arrive_keepsHealth _ _ _ _ _)).1

/-- R47, R48, R53: the events of a valid PROBE-IN on an UP link. -/
theorem recordArrival_reports {s : State} {r : Record} (hl : s.fwd.linkUp = true)
    (hr : r.classify = .valid .probeIn) :
    s.Queues (recordArrival r s) r.probeUplink
      (s.degradeReport (recordArrival r s) r.probeUplink ++ s.healthReport (recordArrival r s) r.probeUplink) := by
  have harrival : recordArrival r s = s.restartSilence.probeArrival r := by
    unfold recordArrival State.acceptRecord
    simp only [hr, hl, if_true]
    rfl
  obtain ⟨hhealth, -⟩ := UplinkState.arrive_keepsHealth (s.uplink r.probeUplink) r.probeSeq r.probeRdi r.bodyCheck
    s.clock.now
  rw [harrival]
  exact State.handOver_reports (s := s.restartSilence) hhealth

/-- Settles O8. -/
theorem protectionMachineFollowsItsTable : Obligations.ProtectionMachineFollowsItsTable := by
  intro u c s hr hsound hc
  have hs : (s.uplink u).HealthSound := (UplinkState.sound_iff.1 (uplinksSound_iff.1 hsound u)).2
  have hstep : ∀ {t : State}, s.ActsByTable t u → (s.uplink u).FollowsTable (t.uplink u) t.clock.now
      ∧ ((∀ r, c = .probeInReceived r → s.fwd.linkUp = true ∧ r.classify = .valid .probeIn) →
          s.Queues t u (s.degradeReport t u ++ s.healthReport t u)) := fun h => ⟨h.1, fun _ => h.2⟩
  rcases hc with rfl | rfl | rfl | rfl | rfl | ⟨r, rfl, rfl⟩ | ⟨tag, f, rfl, hfree, hu⟩
  · exact ⟨_, exec_losAssert u s, hstep (losEdge_actsByTable true hr hs)⟩
  · exact ⟨_, exec_losDeassert u s, hstep (losEdge_actsByTable false hr hs)⟩
  · exact ⟨_, exec_lossQualifyExpiry hr u, hstep (lossQualifyExpiry_actsByTable hs)⟩
  · exact ⟨_, exec_lightQualifyExpiry hr u, hstep (lightQualifyExpiry_actsByTable hs)⟩
  · exact ⟨_, exec_continuityDeadlineExpiry hr u, hstep (continuityDeadlineExpiry_actsByTable hs)⟩
  · refine ⟨_, whenRunning_of_released hr _, recordArrival_followsTable r hs, fun h => ?_⟩
    obtain ⟨hl, hclass⟩ := h r rfl
    exact recordArrival_reports hl hclass
  · exact ⟨_, exec_setUplink hfree tag f, hstep (setUplink_actsByTable tag hu hs)⟩

end Sys2Proof.Machine
end

section
/-! Probe emission (O14), probe arrivals (O15, O16), and the forwarding link's coming up and going down (O41, O42). -/

namespace Sys2Proof.Machine

/-! ### Emission (R31 to R33) -/

/-- R32, R143: the emission of a running clock in the words of `State.emitted`. -/
theorem State.emit_eq_emitted {s : State} {u : Uplink} {start n : Nat} (h : (s.uplink u).clock = .running start n) :
    s.emit u = s.emitted u ((s.uplink u).outSeq + 1#8) (.running start (n + 1))
      (if s.fwd.linkUp then s.fwd.probes.filter (fun y => y.uplink ≠ u) ++
          [{ uplink := u, seq := (s.uplink u).outSeq, rdi := (s.uplink u).localDefect }]
        else s.fwd.probes) := by
  rw [State.emit_running h]
  unfold State.handProbe State.emitted
  rw [State.setUplink_fwd]
  cases s.fwd.linkUp <;> rfl

/-- R31, R32: the emission row of a running clock moves time to the next emission and emits. -/
theorem probeEmission_running {s : State} {u : Uplink} {start n : Nat} (h : (s.uplink u).clock = .running start n) :
    probeEmission u s = (s.advanceTo (start + (s.uplink u).settings.phase * 1000
      + n * ((s.uplink u).settings.interval * 1000))).emitted u ((s.uplink u).outSeq + 1#8) (.running start (n + 1))
      (if s.fwd.linkUp then s.fwd.probes.filter (fun y => y.uplink ≠ u) ++
          [{ uplink := u, seq := (s.uplink u).outSeq, rdi := (s.uplink u).localDefect }]
        else s.fwd.probes) := by
  simp only [probeEmission, UplinkState.nextEmission, h, ms]
  exact State.emit_eq_emitted h

theorem probeEmission_stopped {s : State} {u : Uplink} (h : (s.uplink u).clock = .stopped) :
    probeEmission u s = s := by
  simp only [probeEmission, UplinkState.nextEmission, h]

/-- R33: what the RDI flag of an emitted probe says. -/
theorem UplinkState.localDefect_iff (x : UplinkState) :
    x.localDefect = true ↔ x.qualLos = true ∨ x.continuity = .lost ∨ x.continuity = .notEstablished := by
  simp [UplinkState.localDefect, or_assoc]

theorem exec_probeEmission {s : State} (hr : s.resetHeld = false) (u : Uplink) :
    exec (.probeEmission u) s = .next (probeEmission u s) := whenRunning_of_released hr _

/-- Settles O14. -/
theorem probeEmissionAdvancesTheSequence : Obligations.ProbeEmissionAdvancesTheSequence := by
  intro u s hr x
  rw [exec_probeEmission hr]
  refine ⟨fun start n hclk => ?_, fun hclk => by rw [probeEmission_stopped hclk]⟩
  rw [probeEmission_running hclk]
  refine ⟨_, x.localDefect, rfl, x.localDefect_iff, rfl, State.timeReaches_of_advanceTo rfl, fun v => ?_, rfl⟩
  by_cases hv : v = u
  · rw [if_pos hv, hv]
    exact State.uplink_emitted_self _ u _ _ _
  · rw [if_neg hv]
    exact State.uplink_emitted_other hv _ _ _

/-! ### Counts -/

/-- R35, R138: a count that stays at its bound, as a minimum. -/
theorem saturating_eq_min (bound n : Nat) : saturating bound n = min bound (n + 1) := by
  unfold saturating
  split <;> omega

/-! ### The inward rows at a running part -/

theorem exec_probeInReceived {s : State} (hr : s.resetHeld = false) (r : Record) :
    exec (.probeInReceived r) s = .next (recordArrival r s) := whenRunning_of_released hr _

theorem exec_syncReceived {s : State} (hr : s.resetHeld = false) (r : Record) :
    exec (.syncReceived r) s = .next (recordArrival r s) := whenRunning_of_released hr _

theorem exec_lookupReqReceived {s : State} (hr : s.resetHeld = false) (r : Record) :
    exec (.lookupReqReceived r) s = .next (recordArrival r s) := whenRunning_of_released hr _

theorem exec_faultyRecordReceived {s : State} (hr : s.resetHeld = false) (r : Record) :
    exec (.faultyRecordReceived (some r)) s = .next (recordArrival r s) := whenRunning_of_released hr _

/-- R137: a record cut short. -/
theorem exec_cutRecordReceived {s : State} (hr : s.resetHeld = false) :
    exec (.faultyRecordReceived none) s = .next s.countHeaderError := whenRunning_of_released hr _

/-- R138, R139: what a valid record does, and a faulty one. -/
theorem recordArrival_valid {r : Record} {k : InKind} (s : State) (h : r.classify = .valid k) :
    recordArrival r s = (s.acceptRecord k).routeRecord k r := by
  simp only [recordArrival, h]

theorem recordArrival_faulty {r : Record} {why : RecordFault} (s : State) (h : r.classify = .faulty why) :
    recordArrival r s = s.countHeaderError := by
  simp only [recordArrival, h]

/-- R139, step 2: on an UP link the acceptance of a record restarts the silence timer. -/
theorem State.acceptRecord_up {s : State} (k : InKind) (h : s.fwd.linkUp = true) :
    s.acceptRecord k = { s with fwd := s.silenceRestarted } := by
  rw [State.acceptRecord, if_pos h]
  rfl

/-! ### What an arrival makes of an uplink (R34 to R38) -/

/-- The changes of a judged arrival: continuity, the window with its outcomes, the errored count, the sequence base and
the received RDI as given, the deadline refreshed (R39), and the degraded flag evaluated (R45). -/
def UplinkState.judgedArrival (x : UplinkState) (now : Nat) (continuity : Continuity) (outcomes : List ProbeOutcome)
    (errored : Nat) (base : Option Byte) (rdi : Bool) : UplinkState :=
  { x with
    continuity, deadline := .running (x.deadlineFrom now), window := outcomes.foldl pushOutcome x.window, errored,
    lastAccepted := base, rdi }.evaluateDegrade

/-- R35: an arrival with a bad body on an ESTABLISHED uplink. -/
theorem UplinkState.arrive_errored {x : UplinkState} (seq : Byte) (rdi : Bool) (now : Nat) (hp : x.probing = true)
    (hc : x.continuity = .established) :
    x.arrive seq rdi false now =
      x.judgedArrival now x.continuity [.errored] (min 255 (x.errored + 1)) x.lastAccepted x.rdi := by
  have hform : x.arrive seq rdi false now = x.erroredArrival now := by simp [UplinkState.arrive, hp, hc]
  rw [hform, ← saturating_eq_min]
  rfl

/-- R34, R35: an uplink that does not probe ignores any arrival, and one without continuity a bad body. -/
theorem UplinkState.arrive_ignored {x : UplinkState} (seq : Byte) (rdi good : Bool) (now : Nat)
    (h : x.probing = false ∨ x.continuity ≠ .established ∧ good = false) : x.arrive seq rdi good now = x := by
  obtain hp | ⟨hc, rfl⟩ := h
  · simp [UplinkState.arrive, hp]
  · simp [UplinkState.arrive, hc]

/-- R36: a good arrival without a sequence base. -/
theorem UplinkState.arrive_newBase {x : UplinkState} (seq : Byte) (rdi : Bool) (now : Nat) (hp : x.probing = true)
    (h : x.continuity ≠ .established ∨ x.lastAccepted = none) :
    x.arrive seq rdi true now = x.judgedArrival now .established [.good] 0 (some seq) rdi := by
  have hform : x.resynchronise seq rdi now = x.judgedArrival now .established [.good] 0 (some seq) rdi := rfl
  rw [← hform]
  by_cases hc : x.continuity = .established
  · have hl : x.lastAccepted = none := h.resolve_left (absurd hc)
    simp [UplinkState.arrive, hp, hc, hl]
  · simp [UplinkState.arrive, hp, hc]

/-- R37: a good arrival in the acceptance window. -/
theorem UplinkState.arrive_inWindow {x : UplinkState} {seq a : Byte} (rdi : Bool) (now : Nat) (hp : x.probing = true)
    (hc : x.continuity = .established) (hl : x.lastAccepted = some a)
    (hg : 1 ≤ (seq - a).toNat ∧ (seq - a).toNat ≤ 127) :
    x.arrive seq rdi true now = x.judgedArrival now .established
      (List.replicate ((seq - a).toNat - 1 - x.errored) .missed ++ [.good]) 0 (some seq) rdi := by
  have hform : x.arrive seq rdi true now = x.acceptInWindow seq rdi (seq - a).toNat now := by
    simp only [UplinkState.arrive, hp, hc, hl, if_pos hg, Bool.not_true, Bool.false_eq_true, if_false, if_true]
  rw [hform, UplinkState.judgedArrival, List.foldl_append, ← hc]
  rfl

/-- R38: a good arrival outside the acceptance window is stale. -/
theorem UplinkState.arrive_stale {x : UplinkState} {seq a : Byte} (rdi : Bool) (now : Nat)
    (hc : x.continuity = .established) (hl : x.lastAccepted = some a)
    (hg : ¬ (1 ≤ (seq - a).toNat ∧ (seq - a).toNat ≤ 127)) : x.arrive seq rdi true now = x := by
  simp only [UplinkState.arrive, hc, hl, if_neg hg, Bool.not_true, Bool.false_eq_true, if_false, if_true, ite_self]

/-- R44 to R46: a judged arrival on a sound uplink, with the last 32 outcomes as its window and the flag that both
thresholds give; one that is degraded has a set threshold. -/
theorem UplinkState.judgedArrival_eq {x : UplinkState} (hs : x.ProbeSound) (now : Nat) (c : Continuity)
    (outcomes : List ProbeOutcome) (errored : Nat) (base : Option Byte) (rdi : Bool) :
    let w := (x.window ++ outcomes).drop (x.window.length + outcomes.length - 32)
    ∃ d, (x.degraded = false → (d = true ↔ x.settings.setThreshold ≠ 0 ∧ x.settings.setThreshold ≤ nonGood w))
      ∧ (x.degraded = true → (d = false ↔ nonGood w ≤ x.settings.clearThreshold))
      ∧ x.judgedArrival now c outcomes errored base rdi =
        { x with
          continuity := c, deadline := .running (x.deadlineFrom now), window := w, errored, lastAccepted := base, rdi,
          degraded := d } := by
  intro w
  obtain ⟨-, -, -, hlength, -, hthreshold, -⟩ := hs
  have hw : outcomes.foldl pushOutcome x.window = w := pushOutcome_foldl x.window outcomes hlength
  obtain ⟨hset, hclear⟩ := ({ x with window := w } : UplinkState).degradeDue_iff
  refine ⟨({ x with window := w } : UplinkState).degradeDue, hset,
    fun hd => (hclear hd).trans (or_iff_right (hthreshold hd).1), ?_⟩
  rw [UplinkState.judgedArrival, hw]
  rfl

/-- R22: an arrival that keeps the received RDI can set SD-SEEN alone. -/
theorem UplinkState.latch_probe_sameRdi {old x : UplinkState} (hq : x.qualLos = old.qualLos)
    (hl : x.latches = old.latches) (hc : x.continuity = old.continuity ∨ x.continuity ≠ .lost)
    (hr : x.rdi = old.rdi) :
    old.latch x =
      { x with latches := { old.latches with sd := old.latches.sd || (!old.degraded && x.degraded) } } := by
  rw [UplinkState.latch_probe hq hl hc, hr, Bool.not_and_self, Bool.or_false]

/-- R47: the report of the degraded flag, by the flag before and after. -/
theorem degradeEvents_eq (u : Uplink) (old x : UplinkState) :
    degradeEvents u old x =
      if old.degraded = false ∧ x.degraded = true then
        [.degradeSet u x.settings.policy (nonGood x.window) x.window.length]
      else if old.degraded = true ∧ x.degraded = false then
        [.degradeClear u (nonGood x.window) x.window.length]
      else [] := by
  unfold degradeEvents
  cases old.degraded <;> cases x.degraded <;> rfl

/-! ### PROBE-IN at the part -/

/-- R139, R48: on an UP link a PROBE-IN restarts the silence timer and hands over what the arrival makes of its
uplink. -/
theorem recordArrival_probeIn {s : State} {r : Record} (hl : s.fwd.linkUp = true)
    (hr : r.classify = .valid .probeIn) :
    recordArrival r s = ({ s with fwd := s.silenceRestarted } : State).handOver r.probeUplink
      ((s.uplink r.probeUplink).arrive r.b2 (r.b3.getLsbD 0) r.bodyCheck s.clock.now) := by
  rw [recordArrival_valid s hr, State.acceptRecord_up .probeIn hl]
  rfl

/-- R34, R38: an arrival that leaves its uplink changes the silence timer alone. -/
theorem recordArrival_unjudged {s : State} {r : Record} (hl : s.fwd.linkUp = true)
    (hr : r.classify = .valid .probeIn)
    (h : (s.uplink r.probeUplink).arrive r.b2 (r.b3.getLsbD 0) r.bodyCheck s.clock.now = s.uplink r.probeUplink) :
    recordArrival r s = { s with fwd := s.silenceRestarted } := by
  rw [recordArrival_probeIn hl hr, h]
  exact State.handOver_same r.probeUplink { s with fwd := s.silenceRestarted }

/-- R22, R47, R48: a PROBE-IN on an UP link that makes `y` of its uplink, and `z` with the latches set. -/
theorem recordArrival_judged {s : State} {r : Record} {y z : UplinkState} (hl : s.fwd.linkUp = true)
    (hr : r.classify = .valid .probeIn)
    (hy : (s.uplink r.probeUplink).arrive r.b2 (r.b3.getLsbD 0) r.bodyCheck s.clock.now = y)
    (hz : (s.uplink r.probeUplink).latch y = z) :
    ∃ t h ho wr, recordArrival r s = t ∧ s.SameBeyondUplinks t ∧ t.clock = s.clock ∧ t.control = s.control
      ∧ t.fwd = s.silenceRestarted
      ∧ s.UplinkBecomes t r.probeUplink { z with health := h, holdOffTimer := ho, restoreTimer := wr }
      ∧ s.Queues t r.probeUplink
        (degradeEvents r.probeUplink (s.uplink r.probeUplink) y ++ s.healthReport t r.probeUplink) := by
  obtain ⟨h, ho, wr, hsame, hfwd, hctl, hclk, hb⟩ :=
    State.handOver_gives (s := { s with fwd := s.silenceRestarted }) (u := r.probeUplink) hz
  rw [← hy, ← recordArrival_probeIn hl hr] at hsame hfwd hctl hclk hb
  have hq := recordArrival_reports hl hr
  have ⟨⟨_, _, e⟩, _⟩ := hb
  rw [← degradeEvents_report (x := y) (by rw [e, ← hz]; rfl) (by rw [e, ← hz]; rfl) (by rw [e, ← hz]; rfl)] at hq
  exact ⟨_, h, ho, wr, rfl, hsame, hclk, hctl, hfwd, hb, hq⟩

/-- R178: the body check of a PROBE-IN. -/
theorem bodyCheck_iff (r : Record) : r.bodyCheck = true ↔ r.b4 = ~~~r.b2 ∧ r.b5 = ~~~r.b3 := decide_eq_true_iff

/-- Settles O15. -/
theorem erroredArrivalsKeepContinuity : Obligations.ErroredArrivalsKeepContinuity := by
  intro r s hr hl hclass u x restarted
  rw [exec_probeInReceived hr]
  refine ⟨fun hp hs hc hbody => ?_, fun h => ?_⟩
  · have hbad : r.bodyCheck = false := by rwa [← Bool.not_eq_true, bodyCheck_iff]
    obtain ⟨d, hset, hclear, hform⟩ := UplinkState.judgedArrival_eq hs s.clock.now x.continuity [.errored]
      (min 255 (x.errored + 1)) x.lastAccepted x.rdi
    rw [← UplinkState.arrive_errored r.b2 (r.b3.getLsbD 0) s.clock.now hp hc, ← hbad] at hform
    obtain ⟨t, h, ho, wr, rfl, hsame, hclk, hctl, hfwd, hb, hq⟩ := recordArrival_judged hl hclass hform
      (UplinkState.latch_probe_sameRdi rfl rfl (.inl rfl) rfl)
    rw [degradeEvents_eq] at hq
    exact ⟨_, d, h, ho, wr, rfl, hsame, hclk, hctl, hfwd, hset, hclear, hb, hq⟩
  · have hstays : x.arrive r.b2 (r.b3.getLsbD 0) r.bodyCheck s.clock.now = x :=
      UplinkState.arrive_ignored _ _ _ _
        (h.imp_right fun ⟨hc, hbody⟩ => ⟨hc, by rwa [← Bool.not_eq_true, bodyCheck_iff]⟩)
    rw [recordArrival_unjudged hl hclass hstays]

/-- Settles O16. -/
theorem goodArrivalsAreJudgedByTheirGap : Obligations.GoodArrivalsAreJudgedByTheirGap := by
  intro r s hr hl hclass u x restarted hp hs hb4 hb5
  have hgood : r.bodyCheck = true := (bodyCheck_iff r).2 ⟨hb4, hb5⟩
  rw [exec_probeInReceived hr]
  refine ⟨fun pushed hpushed => ?_, fun a hc hlast hgap => ?_⟩
  · have harr : x.arrive r.b2 (r.b3.getLsbD 0) true s.clock.now =
        x.judgedArrival s.clock.now .established pushed 0 (some r.b2) (r.b3.getLsbD 0) := by
      obtain ⟨hbase, rfl⟩ | ⟨hc, a, g, hlast, rfl, hmin, hmax, rfl⟩ := hpushed
      · exact UplinkState.arrive_newBase _ _ _ hp hbase
      · exact UplinkState.arrive_inWindow _ _ hp hc hlast ⟨hmin, hmax⟩
    obtain ⟨d, hset, hclear, hform⟩ := UplinkState.judgedArrival_eq hs s.clock.now .established pushed 0 (some r.b2)
      (r.b3.getLsbD 0)
    rw [← harr, ← hgood] at hform
    obtain ⟨t, h, ho, wr, rfl, hsame, hclk, hctl, hfwd, hb, hq⟩ := recordArrival_judged hl hclass hform
      (UplinkState.latch_probe rfl rfl (.inr (by simp)))
    rw [degradeEvents_eq] at hq
    exact ⟨_, d, h, ho, wr, rfl, hsame, hclk, hctl, hfwd, hset, hclear, hb, hq⟩
  · have hstays : x.arrive r.b2 (r.b3.getLsbD 0) r.bodyCheck s.clock.now = x := by
      rw [hgood]
      exact UplinkState.arrive_stale _ _ hc hlast (by omega)
    rw [recordArrival_unjudged hl hclass hstays]

/-! ### The link coming up (R138 to R140) -/

/-- R140, R42: the link comes UP with FWD-LINK-UP, and the suspended deadlines run anew. -/
theorem State.linkComesUp_spec (k : InKind) (s : State) :
    s.linkComesUp k = { s with
        fwd := { s.fwd with linkUp := true }, uplinks := (s.linkComesUp k).uplinks,
        events := (s.linkComesUp k).events }
      ∧ (∀ u, (s.linkComesUp k).uplink u = (s.uplink u).resumeDeadline s.clock.now)
      ∧ s.Hands (s.linkComesUp k) [.fwdLinkUp k] := by
  refine ⟨rfl, fun u => vector_get_ofFn _ u, ?_⟩
  exact State.raiseAll_hands (m := { s with
    fwd := { s.fwd with linkUp := true }, uplinks := (s.linkComesUp k).uplinks }) _ rfl rfl rfl

/-- R139: on a DOWN link a valid record does what it does on the link that it has brought UP. -/
theorem recordArrival_down {s : State} {r : Record} {k : InKind} (hl : s.fwd.linkUp = false)
    (hr : r.classify = .valid k) : recordArrival r s = recordArrival r (s.linkComesUp k) := by
  have hdown : s.acceptRecord k = (s.linkComesUp k).restartSilence := by
    rw [State.acceptRecord, if_neg (by simp [hl])]
  have hup : (s.linkComesUp k).acceptRecord k = (s.linkComesUp k).restartSilence :=
    State.acceptRecord_up k rfl
  rw [recordArrival_valid s hr, recordArrival_valid _ hr, hdown, hup]

/-- R139: SYNC on an UP link restarts the silence timer and does nothing more. -/
theorem recordArrival_sync {s : State} {r : Record} (hl : s.fwd.linkUp = true) (hr : r.classify = .valid .sync) :
    recordArrival r s = { s with fwd := s.silenceRestarted } := by
  rw [recordArrival_valid s hr, State.acceptRecord_up .sync hl]
  rfl

/-- Settles O41. -/
theorem validRecordsKeepTheLinkUp : Obligations.ValidRecordsKeepTheLinkUp := by
  intro s hr
  refine ⟨fun r hclass hl => ?_, fun r k hclass hl => ?_, fun r hfaulty => ?_⟩
  · rw [exec_syncReceived hr, recordArrival_sync hl hclass]
  · obtain ⟨hform, huplink, hhands⟩ := s.linkComesUp_spec k
    have hr' : (s.linkComesUp k).resetHeld = false := hr
    refine ⟨s.linkComesUp k, hform, fun u => ?_, hhands, ?_, ?_, ?_⟩
    · rw [huplink]
      rfl
    · rintro rfl
      rw [exec_syncReceived hr, recordArrival_down hl hclass, recordArrival_sync rfl hclass]
    · rintro rfl
      rw [exec_lookupReqReceived hr, exec_lookupReqReceived hr', recordArrival_down hl hclass]
    · rintro rfl
      rw [exec_probeInReceived hr, exec_probeInReceived hr', recordArrival_down hl hclass]
  · have hcount : s.countHeaderError =
        { s with fwd := { s.fwd with headerErrors := min 255 (s.fwd.headerErrors + 1) } } := by
      rw [← saturating_eq_min]
      rfl
    rw [← hcount]
    cases r with
    | none => exact exec_cutRecordReceived hr
    | some x =>
      obtain ⟨why, hwhy⟩ := hfaulty x rfl
      rw [exec_faultyRecordReceived hr, recordArrival_faulty s hwhy]

/-! ### The link going down (R141) -/

theorem exec_silenceExpiry {s : State} (hr : s.resetHeld = false) :
    exec .silenceExpiry s = .next (silenceExpiry s) := whenRunning_of_released hr _

/-- Settles O42. -/
theorem silenceExpiryTakesTheLinkDown : Obligations.SilenceExpiryTakesTheLinkDown := by
  intro s hr
  rw [exec_silenceExpiry hr]
  refine ⟨fun run hrun => ?_, fun hstopped => by simp only [silenceExpiry, hstopped]⟩
  simp only [silenceExpiry, hrun]
  refine ⟨_, rfl, rfl, State.timeReaches_of_advanceTo rfl, rfl, rfl, fun l => vector_get_ofFn _ l,
    fun u => vector_get_ofFn _ u, ?_⟩
  exact State.raiseAll_hands (m := { (s.advanceTo run.expiry).flushLanes with
    fwd := { s.fwd with linkUp := false, silenceTimer := none, refusals := [], signals := [], probes := [] },
    uplinks := Vector.ofFn fun u => (s.uplink u).suspendDeadline }) _ rfl rfl rfl

end Sys2Proof.Machine
end

section
/-! SUPPORT. What a step can do to the flags of chapter 3 and to the groups of chapters 4 to 6, said once: every row is a
chain of moves, and an invariant of those chapters is kept by every step once each move keeps it. -/

namespace Sys2Proof.Machine

/-! ### The moves -/

/-- `y` is as `x` in the three flags and in all that their conditions read (R52, R58, R59). -/
def UplinkState.SameUse (x y : UplinkState) : Prop :=
  y.admin = x.admin ∧ y.health = x.health ∧ y.settings = x.settings ∧ y.degraded = x.degraded
    ∧ y.shunned = x.shunned ∧ y.usable = x.usable

/-- `y` has the flags that the usability evaluation of a step writes as `x` has them. -/
def UplinkState.KeepsFlags (x y : UplinkState) : Prop := y.shunned = x.shunned ∧ y.usable = x.usable

/-- The plans, the buckets and the sweep engine are those of another state. -/
def State.SameGroups (s t : State) : Prop := t.plans = s.plans ∧ t.buckets = s.buckets ∧ t.sweep = s.sweep

/-- Nothing differs that chapters 3 to 6 hold. -/
def State.Quiet (s t : State) : Prop :=
  s.SameGroups t ∧ t.conduits = s.conduits ∧ ∀ u, (s.uplink u).SameUse (t.uplink u)

/-- `m` is `s` after a change that an evaluation of the conduits `touched` follows: the flags stand as they did, and what
the conditions of other conduits and of their members read has not changed (R53). -/
structure State.EvaluatedBy (touched : List Conduit) (s m : State) : Prop where
  groups : s.SameGroups m
  tripCount : ∀ c, (m.conduit c).tripCount ≤ 8 ∨ (m.conduit c).tripCount = (s.conduit c).tripCount
  conduit : ∀ c, c ∉ touched → m.conduit c = s.conduit c ∧ m.downCount c = s.downCount c
  flags : ∀ u, (s.uplink u).KeepsFlags (m.uplink u)
  member : ∀ u c, (m.uplink u).settings.conduit = some c → (s.uplink u).settings.conduit = some c → c ∉ touched →
    (m.uplink u).admin = (s.uplink u).admin ∧ (m.uplink u).health = (s.uplink u).health

/-- One move of the part, as the flags of chapter 3 and the groups see it. -/
inductive State.Move : State → State → Prop
  /-- A change of what they do not read. -/
  | quiet {s t : State} (h : s.Quiet t) : Move s t
  /-- A change of an uplink or of a trip count, with its usability evaluation (R53). -/
  | evaluated {s m : State} {touched : List Conduit} (events : List Event) (h : State.EvaluatedBy touched s m) :
      Move s (m.evaluateUsability touched events s)
  /-- Groups marked for rebalancing (R113). -/
  | rebalanced (s : State) (marked : Group → Bool) : Move s (s.deliver marked { replan := false, rebalance := true })
  /-- The shadow bank written, outside a swap (R67, R70 to R72). -/
  | shadowWritten {s : State} {bank : GroupMap Plan} (idle : s.plans.swapInFlight = false)
      (h : ∀ g, (GroupMap.get Plan.default bank g).members.length ≤ 8
        ∨ ∃ b, GroupMap.get Plan.default bank g = s.planIn b g) :
      Move s { s with plans := s.plans.setBank s.plans.shadow bank }
  /-- A swap begun, with a replan mark on every group (R75). -/
  | swapBegun {s : State} (idle : s.plans.swapInFlight = false) :
      Move s (State.deliver (fun _ => true) { replan := true, rebalance := false }
        { s with plans := { s.plans with swapInFlight := true } })
  /-- A pass begun (R100). -/
  | passBegun (s : State) : Move s (passBegin s)
  /-- A pass completed (R105). -/
  | passCompleted {s : State} {p : PassRecord} (h : s.sweep.pass = some p) : Move s (s.completePass p)
  /-- A lookup on an unplanned group noted (R129). -/
  | hitNoted (s : State) (g : Group) : Move s (s.setGroup g { s.group g with unplannedHit := true })
  /-- A reset (R174). -/
  | reset (s : State) (held : Bool) : Move s (s.toReset held)

/-- What a row can do: moves in turn. -/
def State.Moves (s t : State) : Prop := Relation.ReflTransGen State.Move s t

theorem State.Moves.refl (s : State) : s.Moves s := Relation.ReflTransGen.refl

theorem State.Moves.trans {s t r : State} (h1 : s.Moves t) (h2 : t.Moves r) : s.Moves r :=
  Relation.ReflTransGen.trans h1 h2

theorem State.Move.moves {s t : State} (h : s.Move t) : s.Moves t := .single h

theorem State.Quiet.moves {s t : State} (h : s.Quiet t) : s.Moves t := (State.Move.quiet h).moves

/-- What every move keeps, moves in turn keep. -/
theorem State.Moves.keeps {I : State → Prop} (hI : ∀ {s t : State}, s.Move t → I s → I t) {s t : State}
    (h : s.Moves t) (hs : I s) : I t := by
  unfold State.Moves at h
  induction h with
  | refl => exact hs
  | tail _ hmove ih => exact hI hmove ih

/-! ### Quiet changes -/

theorem UplinkState.SameUse.refl (x : UplinkState) : x.SameUse x := ⟨rfl, rfl, rfl, rfl, rfl, rfl⟩

theorem UplinkState.KeepsFlags.refl (x : UplinkState) : x.KeepsFlags x := ⟨rfl, rfl⟩

theorem UplinkState.SameUse.trans {x y z : UplinkState} (h1 : x.SameUse y) (h2 : y.SameUse z) : x.SameUse z := by
  obtain ⟨a1, a2, a3, a4, a5, a6⟩ := h1
  obtain ⟨b1, b2, b3, b4, b5, b6⟩ := h2
  exact ⟨b1.trans a1, b2.trans a2, b3.trans a3, b4.trans a4, b5.trans a5, b6.trans a6⟩

theorem State.SameGroups.refl (s : State) : s.SameGroups s := ⟨rfl, rfl, rfl⟩

theorem State.SameGroups.trans {s t r : State} (h1 : s.SameGroups t) (h2 : t.SameGroups r) : s.SameGroups r := by
  obtain ⟨a1, a2, a3⟩ := h1
  obtain ⟨b1, b2, b3⟩ := h2
  exact ⟨b1.trans a1, b2.trans a2, b3.trans a3⟩

theorem State.Quiet.refl (s : State) : s.Quiet s := ⟨.refl s, rfl, fun _ => .refl _⟩

theorem State.Quiet.trans {s t r : State} (h1 : s.Quiet t) (h2 : t.Quiet r) : s.Quiet r := by
  obtain ⟨hg1, hc1, hu1⟩ := h1
  obtain ⟨hg2, hc2, hu2⟩ := h2
  exact ⟨hg1.trans hg2, hc2.trans hc1, fun u => (hu1 u).trans (hu2 u)⟩

/-- What leaves the uplinks, the conduits and the groups is quiet. -/
theorem State.Quiet.of_same {s t : State} (hg : s.SameGroups t) (hc : t.conduits = s.conduits)
    (hu : t.uplinks = s.uplinks) : s.Quiet t :=
  ⟨hg, hc, fun u => by
    have e : t.uplink u = s.uplink u := by unfold State.uplink; rw [hu]
    rw [e]
    exact .refl _⟩

theorem State.raise_quiet (e : Event) (s : State) : s.Quiet (s.raise e) := .refl s

theorem State.advanceTo_quiet (t : Nat) (s : State) : s.Quiet (s.advanceTo t) := .refl s

/-- A write of one uplink that its flags do not read. -/
theorem State.setUplink_quiet {s : State} {u : Uplink} {x : UplinkState} (h : (s.uplink u).SameUse x) :
    s.Quiet (s.setUplink u x) := by
  refine ⟨.refl s, rfl, fun v => ?_⟩
  rw [State.uplink_setUplink]
  split
  · rename_i huv
    rwa [← huv]
  · exact .refl _

theorem State.handProbe_quiet (x : ProbeOut) (s : State) : s.Quiet (s.handProbe x) := by
  unfold State.handProbe
  split <;> exact .refl s

theorem State.handRefusal_quiet (a : Answer) (s : State) : s.Quiet (s.handRefusal a) := by
  unfold State.handRefusal
  split <;> exact .refl s

theorem State.handSignal_quiet (x : Signal) (s : State) : s.Quiet (s.handSignal x) := by
  unfold State.handSignal
  split <;> exact .refl s

theorem State.evaluatePause_quiet (l : Lane) (s : State) : s.Quiet (s.evaluatePause l) := by
  unfold State.evaluatePause
  split
  · exact State.handSignal_quiet _ (s.setLane l _)
  · exact .refl s

theorem State.evaluateResume_quiet (l : Lane) (s : State) : s.Quiet (s.evaluateResume l) := by
  unfold State.evaluateResume
  split
  · exact State.handSignal_quiet _ (s.setLane l _)
  · exact .refl s

/-- R118, R121, R122: an arrival at a lane. -/
theorem State.laneArrival_quiet (q : Request) (s : State) : s.Quiet (s.laneArrival q) := by
  unfold State.laneArrival
  simp only
  split
  · exact State.handRefusal_quiet _ s
  · split
    · split <;> exact State.handRefusal_quiet _ s
    · exact State.evaluatePause_quiet q.lane (s.setLane q.lane _)

/-- R32: an emission. -/
theorem State.emit_quiet (u : Uplink) (s : State) : s.Quiet (s.emit u) := by
  cases hc : (s.uplink u).clock with
  | stopped => rw [State.emit_stopped hc]; exact .refl s
  | running start n =>
    rw [State.emit_running hc]
    refine State.Quiet.trans ?_ (State.handProbe_quiet _ _)
    exact State.setUplink_quiet ⟨rfl, rfl, rfl, rfl, rfl, rfl⟩

theorem State.emitAtStart_quiet (u : Uplink) (s : State) : s.Quiet (s.emitAtStart u) := by
  unfold State.emitAtStart
  split
  · exact State.emit_quiet u s
  · exact .refl s

theorem probeEmission_quiet (u : Uplink) (s : State) : s.Quiet (probeEmission u s) := by
  unfold probeEmission
  split
  · rename_i t _
    exact State.emit_quiet u (s.advanceTo t)
  · exact .refl s

/-- R41, R42: deadlines are no part of the flags' conditions. -/
theorem UplinkState.resumeDeadline_sameUse (x : UplinkState) (now : Nat) : x.SameUse (x.resumeDeadline now) := by
  unfold UplinkState.resumeDeadline
  split <;> exact .refl x

theorem UplinkState.suspendDeadline_sameUse (x : UplinkState) : x.SameUse x.suspendDeadline := by
  unfold UplinkState.suspendDeadline
  split <;> exact .refl x

/-- R140: the link coming UP. -/
theorem State.linkComesUp_quiet (k : InKind) (s : State) : s.Quiet (s.linkComesUp k) := by
  obtain ⟨-, hu, -⟩ := State.linkComesUp_spec k s
  exact ⟨⟨State.raise_plans _ _, State.raise_buckets _ _, State.raise_sweep _ _⟩, State.raise_conduits _ _,
    fun u => by rw [hu]; exact UplinkState.resumeDeadline_sameUse _ _⟩

/-- R139: a valid record accepted. -/
theorem State.acceptRecord_quiet (k : InKind) (s : State) : s.Quiet (s.acceptRecord k) := by
  unfold State.acceptRecord
  split
  · exact .refl s
  · exact State.linkComesUp_quiet k s

/-- R141: the link going DOWN. -/
theorem silenceExpiry_quiet (s : State) : s.Quiet (silenceExpiry s) := by
  cases ht : s.fwd.silenceTimer with
  | none => simpa only [silenceExpiry, ht] using State.Quiet.refl s
  | some t =>
    have hu : ∀ u, (silenceExpiry s).uplink u = (s.uplink u).suspendDeadline := fun u => by
      simp only [silenceExpiry, ht]
      exact vector_get_ofFn _ u
    refine ⟨?_, ?_, fun u => by rw [hu]; exact UplinkState.suspendDeadline_sameUse _⟩
    · simp only [silenceExpiry, ht]
      exact ⟨rfl, rfl, rfl⟩
    · simp only [silenceExpiry, ht]
      rfl

theorem State.countHeaderError_quiet (s : State) : s.Quiet s.countHeaderError := .refl s

theorem recordTime_quiet (s : State) : s.Quiet (recordTime s) := by
  unfold recordTime
  repeat' split
  all_goals exact .refl s

theorem lingerExpiry_quiet (s : State) : s.Quiet (lingerExpiry s) := by
  unfold lingerExpiry
  split <;> exact .refl s

theorem State.releaseReadGroup_quiet (g : Group) (s : State) : s.Quiet (s.releaseReadGroup g) := by
  unfold State.releaseReadGroup
  repeat' split
  all_goals exact .refl s

theorem State.reply_quiet (type tag : Byte) (body : ReplyBody) (s : State) : s.Quiet (s.reply type tag body) :=
  .refl s

/-- R1, R174: raw LOS following the inputs. -/
theorem State.releaseReset_quiet (s : State) : s.Quiet s.releaseReset := by
  refine ⟨.refl s, rfl, fun u => ?_⟩
  have e : s.releaseReset.uplink u = { s.uplink u with rawLos := (s.uplink u).losPin } := vector_get_ofFn _ u
  rw [e]
  exact ⟨rfl, rfl, rfl, rfl, rfl, rfl⟩

/-! ### The usability evaluation of a row -/

/-- R53, step 1: what a change of one uplink leaves of a conduit that is not evaluated for it. -/
theorem touchedConduits_untouched {old x : UplinkState} {c : Conduit} (h : c ∉ touchedConduits old x) :
    (x.settings.conduit = some c ↔ old.settings.conduit = some c)
      ∧ (x.settings.conduit = some c → x.admin = old.admin ∧ x.health = old.health) := by
  unfold touchedConduits at h
  by_cases hm : old.settings.conduit = x.settings.conduit
  · refine ⟨by rw [hm], fun hc => ?_⟩
    rw [if_neg (not_not.2 hm)] at h
    split at h
    · exact absurd (by rw [hc]; exact List.mem_singleton_self c) h
    · rename_i hsame
      rw [not_or, not_not, not_not] at hsame
      exact ⟨hsame.2.symm, hsame.1.symm⟩
  · rw [if_pos hm] at h
    have hold : old.settings.conduit ≠ some c := fun hc => h (by simp [hc])
    have hnew : x.settings.conduit ≠ some c := fun hc => h (by simp [hc])
    exact ⟨iff_of_false hnew hold, fun hc => absurd hc hnew⟩

/-- A conduit's DOWN count is read off its members' monitoring and health. -/
theorem State.downCount_congr {s t : State} {c : Conduit}
    (h : ∀ u, (t.uplink u).settings.conduit = some c ∧ (t.uplink u).countsDown = true
      ↔ (s.uplink u).settings.conduit = some c ∧ (s.uplink u).countsDown = true) :
    t.downCount c = s.downCount c := by
  unfold State.downCount
  congr 2
  funext u
  rw [Bool.eq_iff_iff]
  simpa using h u

/-- R53: a write of one uplink that keeps its flags, and the evaluation of the conduits it touches. -/
theorem State.setUplink_evaluatedBy {s m : State} {u : Uplink} {x : UplinkState} (hg : s.SameGroups m)
    (hc : m.conduits = s.conduits) (hu : ∀ v, v ≠ u → m.uplink v = s.uplink v) (hx : (s.uplink u).KeepsFlags x) :
    State.EvaluatedBy (touchedConduits (s.uplink u) x) s (m.setUplink u x) := by
  have hcon : ∀ c, (m.setUplink u x).conduit c = s.conduit c := fun c => by
    unfold State.conduit
    rw [State.setUplink_conduits, hc]
  have hself : (m.setUplink u x).uplink u = x := State.uplink_setUplink_self m u x
  have hother : ∀ v, v ≠ u → (m.setUplink u x).uplink v = s.uplink v := fun v hv => by
    rw [State.uplink_setUplink, if_neg (Ne.symm hv), hu v hv]
  refine ⟨hg, fun c => .inr (by rw [hcon]), fun c hn => ⟨hcon c, State.downCount_congr fun v => ?_⟩, fun v => ?_,
    fun v c hm _ hn => ?_⟩
  all_goals by_cases hv : v = u
  · obtain ⟨hmem, hsame⟩ := touchedConduits_untouched hn
    rw [hv, hself, hmem]
    refine and_congr_right fun hold => ?_
    obtain ⟨ha, hh⟩ := hsame (hmem.2 hold)
    unfold UplinkState.countsDown UplinkState.monitored
    rw [ha, hh]
  · rw [hother v hv]
  · rw [hv, hself]; exact hx
  · rw [hother v hv]; exact .refl _
  · rw [hv, hself] at hm ⊢
    exact (touchedConduits_untouched hn).2 hm
  · rw [hother v hv]; exact ⟨rfl, rfl⟩

/-- R57: a trip count written, and the evaluation of its conduit. -/
theorem State.setConduit_evaluatedBy (s : State) (c : Conduit) {n : Nat} (hn : n ≤ 8) :
    State.EvaluatedBy [c] s (s.setConduit c { s.conduit c with tripCount := n }) := by
  refine ⟨.refl s, fun d => ?_, fun d hd => ⟨?_, rfl⟩, fun u => .refl _, fun u d _ _ _ => ⟨rfl, rfl⟩⟩
  · rw [State.conduit_setConduit]
    split
    · exact .inl hn
    · exact .inr rfl
  · rw [State.conduit_setConduit, if_neg fun h => hd (List.mem_singleton.2 h.symm)]

theorem State.settleHealth_moves {s : State} {u : Uplink} {y : UplinkState × List Event}
    (h : (s.uplink u).KeepsFlags y.1) : s.Moves (s.settleHealth u y s) :=
  (State.Move.evaluated y.2 (State.setUplink_evaluatedBy (.refl s) rfl (fun _ _ => rfl) h)).moves

/-- R48: a handing over is one change with its evaluation. -/
theorem State.handOver_moves {s : State} {u : Uplink} {x : UplinkState} (h : (s.uplink u).KeepsFlags x) :
    s.Moves (s.handOver u x) := by
  obtain ⟨m, hm⟩ : ∃ m, m = (s.setUplink u x).raiseAll (degradeEvents u (s.uplink u) x) := ⟨_, rfl⟩
  have hx : m.uplink u = x := by simp [hm]
  obtain ⟨y, hy⟩ : ∃ y, y = ((s.uplink u).latch x).protect u m.clock.now (s.uplink u).defects := ⟨_, rfl⟩
  obtain ⟨⟨hh, ho, wr, hshape⟩, -⟩ :=
    UplinkState.protect_shape ((s.uplink u).latch x) u m.clock.now (s.uplink u).defects
  have hflags : (s.uplink u).KeepsFlags y.1 := by rw [hy, hshape]; exact h
  have e : s.handOver u x = (m.setUplink u y.1).evaluateUsability (touchedConduits (s.uplink u) y.1) y.2 s := by
    rw [hy, ← hx, hm]
    simp [State.handOver, State.settleUplink]
  rw [e]
  refine (State.Move.evaluated y.2 (State.setUplink_evaluatedBy ⟨?_, ?_, ?_⟩ ?_ (fun v hv => ?_) hflags)).moves
  case refine_5 => rw [hm, State.raiseAll_uplink, State.uplink_setUplink, if_neg (Ne.symm hv)]
  all_goals simp [hm]

/-! ### The rows of the uplinks -/

theorem losEdge_moves (u : Uplink) (level : Bool) (s : State) : s.Moves (losEdge u level s) := by
  by_cases hpin : s.resetHeld = true ∨ (s.uplink u).rawLos = level
  · rw [losEdge_pin hpin]
    refine (State.setUplink_quiet ?_).moves
    exact ⟨rfl, rfl, rfl, rfl, rfl, rfl⟩
  · rw [not_or, Bool.not_eq_true] at hpin
    obtain ⟨hr, hl⟩ := hpin
    cases hm : (s.uplink u).monitored with
    | false =>
      rw [losEdge_disabled hr hl hm]
      refine (State.setUplink_quiet ?_).moves
      exact ⟨rfl, rfl, rfl, rfl, rfl, rfl⟩
    | true =>
      rw [losEdge_monitored hr hl hm]
      apply State.handOver_moves
      unfold UplinkState.losEdged UplinkState.losAsserted UplinkState.losDeasserted
      repeat' split
      all_goals exact ⟨rfl, rfl⟩

theorem lossQualifyExpiry_moves (u : Uplink) (s : State) : s.Moves (lossQualifyExpiry u s) := by
  cases ht : (s.uplink u).lossTimer with
  | none => rw [lossQualifyExpiry_stopped ht]; exact .refl s
  | some e =>
    rw [lossQualifyExpiry_running ht]
    refine (State.advanceTo_quiet e s).moves.trans (State.handOver_moves ?_)
    exact ⟨rfl, rfl⟩

theorem lightQualifyExpiry_moves (u : Uplink) (s : State) : s.Moves (lightQualifyExpiry u s) := by
  cases ht : (s.uplink u).lightTimer with
  | none => rw [lightQualifyExpiry_stopped ht]; exact .refl s
  | some e =>
    rw [lightQualifyExpiry_running ht]
    refine (State.advanceTo_quiet e s).moves.trans (State.handOver_moves ?_)
    exact ⟨rfl, rfl⟩

theorem holdOffExpiry_moves (u : Uplink) (s : State) : s.Moves (holdOffExpiry u s) := by
  unfold holdOffExpiry
  split
  · rename_i t _
    refine (State.advanceTo_quiet t s).moves.trans (State.settleHealth_moves ?_)
    unfold UplinkState.holdOffJudgement
    split <;> exact ⟨rfl, rfl⟩
  · exact .refl s

theorem waitToRestoreExpiry_moves (u : Uplink) (s : State) : s.Moves (waitToRestoreExpiry u s) := by
  unfold waitToRestoreExpiry
  split
  · rename_i t _
    refine (State.advanceTo_quiet t s).moves.trans (State.settleHealth_moves ?_)
    exact ⟨rfl, rfl⟩
  · exact .refl s

theorem continuityDeadlineExpiry_moves (u : Uplink) (s : State) : s.Moves (continuityDeadlineExpiry u s) := by
  cases hd : (s.uplink u).deadline with
  | stopped => rw [continuityDeadlineExpiry_stopped (.inl hd)]; exact .refl s
  | suspended => rw [continuityDeadlineExpiry_stopped (.inr hd)]; exact .refl s
  | running e =>
    rw [continuityDeadlineExpiry_running hd]
    refine (State.advanceTo_quiet e s).moves.trans (State.handOver_moves ?_)
    exact ⟨rfl, rfl⟩

/-- R34 to R38: a probe's arrival writes no flag of chapter 3 itself. -/
theorem State.probeArrival_moves (r : Record) (s : State) : s.Moves (s.probeArrival r) := by
  refine State.handOver_moves ?_
  obtain e | ⟨-, e | ⟨-, e | ⟨g, e⟩⟩⟩ :=
    (s.uplink r.probeUplink).arrive_cases r.probeSeq r.probeRdi r.bodyCheck s.clock.now <;> rw [e] <;> exact ⟨rfl, rfl⟩

theorem recordArrival_moves (r : Record) (s : State) : s.Moves (recordArrival r s) := by
  unfold recordArrival
  split
  · rename_i k _
    refine (State.acceptRecord_quiet k s).moves.trans ?_
    cases k with
    | sync => exact .refl _
    | lookupReq => exact (State.laneArrival_quiet _ _).moves
    | probeIn => exact State.probeArrival_moves r _
  · exact (State.countHeaderError_quiet s).moves

/-- R49: the settings written and their effects write none either. -/
theorem UplinkState.applySettings_keepsFlags (old : UplinkState) (new : Settings) (now : Nat) (linkUp : Bool) :
    old.KeepsFlags (old.applySettings new now linkUp) := by
  cases ho : old.probing <;> cases hn : ({ old with settings := new } : UplinkState).probing
  · rw [(UplinkState.applySettings_idle now linkUp ho hn).1]
    exact ⟨rfl, rfl⟩
  · rw [(UplinkState.applySettings_begins now linkUp ho hn).1]
    unfold UplinkState.beginByMultiplier
    split <;> exact ⟨rfl, rfl⟩
  · rw [(UplinkState.applySettings_ends now linkUp ho hn).1]
    exact ⟨rfl, rfl⟩
  · rw [(UplinkState.applySettings_retimes now linkUp ho hn).1]
    exact ⟨rfl, rfl⟩

theorem State.afterSettings_moves (u : Uplink) (new : Settings) (s : State) : s.Moves (s.afterSettings u new) := by
  have hover : s.Moves (s.handOver u ((s.uplink u).applySettings new s.clock.now s.fwd.linkUp)) :=
    State.handOver_moves (UplinkState.applySettings_keepsFlags _ _ _ _)
  unfold State.afterSettings
  simp only
  split
  · exact hover.trans (State.emitAtStart_quiet u _).moves
  · exact hover

theorem doSetUplink_moves (f : UplinkFields) (s : State) : s.Moves (doSetUplink f s).1 := by
  cases h : judgeSettings f with
  | bad e => rw [doSetUplink_bad h]; exact .refl s
  | good v => rw [doSetUplink_good h]; exact State.afterSettings_moves _ _ s

/-- R10: an uplink enabled. -/
theorem State.enableUplink_moves (u : Uplink) (m : AdminMode) (s : State) : s.Moves (s.enableUplink u m) := by
  have hset : s.Moves (s.settleHealth u
      (((s.uplink u).latch ((s.uplink u).enable m s.clock.now)).startCheck u s.clock.now) s) := by
    apply State.settleHealth_moves
    obtain ⟨hh, wr, e⟩ := ((s.uplink u).latch ((s.uplink u).enable m s.clock.now)).startCheck_shape u s.clock.now
    rw [e]
    unfold UplinkState.enable
    simp only
    split <;> exact ⟨rfl, rfl⟩
  unfold State.enableUplink
  simp only
  split
  · exact hset.trans (State.emitAtStart_quiet u _).moves
  · exact hset

/-- R9 to R11: SET-ADMIN. -/
theorem State.setAdmin_moves (u : Uplink) (m : AdminMode) (s : State) : s.Moves (s.setAdmin u m) := by
  unfold State.setAdmin
  simp only
  split
  · exact .refl s
  · split
    · refine State.settleHealth_moves ?_
      unfold UplinkState.disable
      split <;> exact ⟨rfl, rfl⟩
    · split
      · exact State.enableUplink_moves u m s
      · refine State.settleHealth_moves ?_
        exact ⟨rfl, rfl⟩

theorem doSetAdmin_moves (b mode : Byte) (s : State) : s.Moves (doSetAdmin b mode s).1 := by
  unfold doSetAdmin
  split
  · exact .refl s
  · split
    · exact .refl s
    · exact State.setAdmin_moves _ _ s

theorem doForceRestore_moves (b : Byte) (s : State) : s.Moves (doForceRestore b s).1 := by
  unfold doForceRestore
  split
  · exact .refl s
  · split
    · refine State.settleHealth_moves ?_
      exact ⟨rfl, rfl⟩
    · exact .refl s

theorem doClearLatch_moves (b : Byte) (s : State) : s.Moves (doClearLatch b s).1 := by
  unfold doClearLatch
  split
  · exact .refl s
  · refine (State.setUplink_quiet ?_).moves
    exact ⟨rfl, rfl, rfl, rfl, rfl, rfl⟩

theorem doSetConduit_moves (b trip : Byte) (s : State) : s.Moves (doSetConduit b trip s).1 := by
  unfold doSetConduit
  split
  · exact .refl s
  · exact (State.Move.evaluated [] (State.setConduit_evaluatedBy s _ (clampTo_zero_le 8 _))).moves

/-! ### The rows of the groups -/

/-- R68: a plan record admitted has at most 8 members. -/
theorem judgePlan_length {f : PlanFields} {g : Group} {p : Plan} (h : judgePlan f = .good (g, p)) :
    p.members.length ≤ 8 := by
  unfold judgePlan at h
  repeat' split at h
  all_goals cases h
  all_goals simp only [List.length_map]; omega

/-- R67, R70: a record of at most 8 members written into the shadow bank outside a swap. -/
theorem State.writeShadow_moves {s : State} {g : Group} {p : Plan} (idle : s.plans.swapInFlight = false)
    (hp : p.members.length ≤ 8) : s.Moves (s.writeShadow g p) := by
  refine (State.Move.shadowWritten idle fun k => ?_).moves
  rw [GroupMap.get_put]
  split
  · exact .inl hp
  · exact .inr ⟨_, rfl⟩

theorem doWritePlan_moves (f : PlanFields) (s : State) : s.Moves (doWritePlan f s).1 := by
  unfold doWritePlan
  split
  · exact .refl s
  · rename_i idle
    split
    · exact .refl s
    · rename_i hgood
      exact State.writeShadow_moves (by simpa using idle) (judgePlan_length hgood)

theorem doClearPlan_moves (g : Half) (s : State) : s.Moves (doClearPlan g s).1 := by
  unfold doClearPlan
  split
  · exact .refl s
  · rename_i idle
    split
    · exact .refl s
    · exact State.writeShadow_moves (by simpa using idle) (by simp [Plan.default])

theorem doCopyActive_moves (s : State) : s.Moves (doCopyActive s).1 := by
  unfold doCopyActive
  split
  · exact .refl s
  · rename_i idle
    exact (State.Move.shadowWritten (by simpa using idle) fun g => .inr ⟨s.plans.active, rfl⟩).moves

theorem doSwap_moves (s : State) : s.Moves (doSwap s).1 := by
  unfold doSwap
  split
  · exact .refl s
  · rename_i idle
    exact (State.Move.swapBegun (by simpa using idle)).moves

theorem doRebalance_moves (t : RebalanceTarget) (s : State) : s.Moves (doRebalance t s).1 := by
  unfold doRebalance
  repeat' split
  · exact .refl s
  · exact (State.Move.rebalanced s _).moves
  · exact (State.Move.rebalanced s _).moves

/-- R105, R102: a completion. -/
theorem passComplete_moves (s : State) : s.Moves (passComplete s) := by
  unfold passComplete
  split
  · rename_i p hp
    exact (State.Move.passCompleted hp).moves.trans (State.releaseReadGroup_quiet _ _).moves
  · exact .refl s

/-- R129: the unplanned-hit flag of a group is all that a lookup can write of the groups. -/
theorem State.noteUnplanned_moves (q : Request) (s : State) : s.Moves (s.noteUnplanned q) := by
  unfold State.noteUnplanned
  split
  · exact .refl s
  · rename_i g _
    split
    · exact .refl s
    · exact (State.Move.hitNoted s g).moves.trans (State.raise_quiet _ _).moves

/-- R124: a service takes the head of a lane and decides its answer. -/
theorem State.serve_moves (l : Lane) (q : Request) (rest : List Request) (s : State) : s.Moves (s.serve l q rest) := by
  obtain ⟨m, hm⟩ : ∃ m : State, m = ({ s.setLane l { s.lane l with queue := rest } with
    lookup := { (s.setLane l { s.lane l with queue := rest }).lookup with lastServed := l } } : State) := ⟨_, rfl⟩
  have htaken : s.Quiet m := by rw [hm]; exact .refl s
  have hnoted := (htaken.trans (State.evaluateResume_quiet l m)).moves.trans (State.noteUnplanned_moves q _)
  unfold State.serve
  simp only [← hm]
  exact hnoted.trans (State.Quiet.moves (.refl _))

theorem serviceBegin_moves (s : State) : s.Moves (serviceBegin s) := by
  unfold serviceBegin
  repeat' split
  · exact .refl s
  · exact .refl s
  · exact .refl s
  · exact State.serve_moves _ _ _ s

/-! ### The control port -/

theorem takeReadGroup_quiet (tag : Byte) (g : Half) (s : State) : s.Quiet (takeReadGroup tag g s) := by
  unfold takeReadGroup
  repeat' split
  all_goals exact .refl s

theorem doReadPlan_quiet (g : Half) (b : Byte) (s : State) : s.Quiet (doReadPlan g b s).1 := by
  unfold doReadPlan
  repeat' split
  all_goals exact .refl s

theorem doGetUplink_quiet (b : Byte) (s : State) : s.Quiet (doGetUplink b s).1 := by
  unfold doGetUplink
  split <;> exact .refl s

theorem doSetLane_quiet (l e p r : Byte) (s : State) : s.Quiet (doSetLane l e p r s).1 := by
  unfold doSetLane State.evaluateMarks
  repeat' split
  · exact .refl s
  · exact .refl s
  · simp only
    split
    · exact State.evaluateResume_quiet _ (s.setLane _ _)
    · exact State.evaluatePause_quiet _ (s.setLane _ _)

theorem doSetAlert_quiet (t : Byte) (l : Half) (u : Byte) (s : State) : s.Quiet (doSetAlert t l u s).1 := by
  unfold doSetAlert
  split <;> exact .refl s

/-- A reply is no move of its own. -/
theorem State.Moves.finish {s : State} {r : State × ReplyBody} (h : s.Moves r.1) (type tag : Byte) :
    s.Moves (finish type tag r) := h.trans (State.reply_quiet type tag r.2 r.1).moves

/-- R165: a command taken. -/
theorem takeCommand_moves (tag : Byte) (c : Command) (s : State) : s.Moves (takeCommand tag c s) := by
  have hsame : ∀ b : ReplyBody, s.Moves (s.reply c.typeCode tag b) := fun b => (State.reply_quiet _ _ b s).moves
  cases c with
  | identify => exact hsame _
  | getStatus => exact State.Moves.finish (r := doGetStatus s) (State.Quiet.moves (.refl s)) _ tag
  | setTime t => exact State.Moves.finish (r := doSetTime t s) (State.Quiet.moves (.refl s)) _ tag
  | setUplink f => exact (doSetUplink_moves f s).finish _ tag
  | getUplink u => exact (doGetUplink_quiet u s).moves.finish _ tag
  | setAdmin u m => exact (doSetAdmin_moves u m s).finish _ tag
  | forceRestore u => exact (doForceRestore_moves u s).finish _ tag
  | clearLatch u => exact (doClearLatch_moves u s).finish _ tag
  | setConduit d t => exact (doSetConduit_moves d t s).finish _ tag
  | writePlan f => exact (doWritePlan_moves f s).finish _ tag
  | clearPlan g => exact (doClearPlan_moves g s).finish _ tag
  | copyActive => exact (doCopyActive_moves s).finish _ tag
  | readPlan g b => exact (doReadPlan_quiet g b s).moves.finish _ tag
  | swap => exact (doSwap_moves s).finish _ tag
  | readGroup g => exact (takeReadGroup_quiet tag g s).moves
  | rebalance t => exact (doRebalance_moves t s).finish _ tag
  | setLane l e p r => exact (doSetLane_quiet l e p r s).moves.finish _ tag
  | setFwdlink t => exact State.Moves.finish (r := doSetFwdlink t s) (State.Quiet.moves (.refl s)) _ tag
  | setAlert t l u => exact (doSetAlert_quiet t l u s).moves.finish _ tag
  | fetchEvents n => exact State.Moves.finish (r := doFetchEvents n s) (State.Quiet.moves (.refl s)) _ tag
  | reset => exact State.Quiet.moves (.refl s)

/-- A change at the control port alone is quiet. -/
theorem State.withControl_moves (c : ControlState) (s : State) : s.Moves { s with control := c } :=
  State.Quiet.moves (.refl s)

theorem State.takeNext_moves (s : State) : s.Moves s.takeNext := by
  unfold State.takeNext
  split
  · split
    · exact .refl s
    · exact (s.withControl_moves _).trans (takeCommand_moves _ _ _)
  · exact .refl s

theorem receiveCommand_moves (tag : Byte) (c : Command) (s : State) : s.Moves (receiveCommand tag c s) := by
  unfold receiveCommand
  split
  · exact (s.withControl_moves _).trans (State.takeNext_moves _)
  · exact s.withControl_moves _

theorem receiveWhole_moves (type tag : Byte) (payload : List Byte) (s : State) :
    s.Moves (receiveWhole type tag payload s) := by
  unfold receiveWhole
  split
  · exact s.withControl_moves _
  · exact s.withControl_moves _
  · exact receiveCommand_moves _ _ s

theorem judgeFrame_moves (frame : List Byte) (s : State) : s.Moves (judgeFrame frame s) := by
  unfold judgeFrame
  simp only
  repeat' split
  · exact (s.withControl_moves _).trans (receiveWhole_moves _ _ _ s.hunt)
  all_goals exact s.withControl_moves _

/-- R161: a byte taken. -/
theorem takeByte_moves (b : Byte) (s : State) : s.Moves (takeByte b s) := by
  unfold takeByte
  cases s.control.rx with
  | hunting => simp only; split <;> [exact s.withControl_moves _; exact .refl s]
  | length => simp only; repeat' split
              all_goals exact s.withControl_moves _
  | body => exact s.withControl_moves _
  | check => simp only; split <;> [exact s.withControl_moves _; exact judgeFrame_moves _ s]

theorem takeBytes_moves (bs : List Byte) (s : State) : s.Moves (takeBytes bs s) := by
  unfold takeBytes
  induction bs generalizing s with
  | nil => exact .refl s
  | cons b bs ih => exact (takeByte_moves b s).trans (ih _)

/-- R166, R173: a reply's end. -/
theorem replySent_moves (s : State) : s.Moves (replySent s) := by
  unfold replySent
  split
  · exact .refl s
  · simp only
    split
    · exact (s.withControl_moves _).trans (State.Move.reset _ false).moves
    · exact (s.withControl_moves _).trans (State.takeNext_moves _)

/-! ### What the moves of the sweep engine write -/

/-- R112: a replan completion handed to the Plan Store exchanges the banks exactly if it is the swap's last. -/
theorem State.handReplan_eq (replan : Bool) (s : State) : ∃ plans, (s.handReplan replan).1 = { s with plans }
    ∧ (plans = s.plans.exchange ∧ replan = true ∧ s.plans.swapInFlight = true ∧ s.replansRemaining = 0
      ∨ plans = s.plans ∧ (replan = true → s.plans.swapInFlight = true → s.replansRemaining ≠ 0)) := by
  unfold State.handReplan
  split
  · rename_i h
    simp only [Bool.and_eq_true, decide_eq_true_eq] at h
    exact ⟨_, rfl, .inl ⟨rfl, h.1.1, h.1.2, h.2⟩⟩
  · rename_i h
    simp only [Bool.and_eq_true, decide_eq_true_eq, not_and] at h
    exact ⟨_, rfl, .inr ⟨rfl, fun hr hf => h ⟨hr, hf⟩⟩⟩

theorem State.closeEpisode_eq (s : State) :
    ∃ episode, s.closeEpisode.1 = { s with sweep := { s.sweep with episode } } := by
  unfold State.closeEpisode
  repeat' split
  all_goals exact ⟨_, rfl⟩

/-- R105: a completion writes the group's record, perhaps the active bank (R112), and the sweep engine, and queues
events. -/
theorem State.completePass_eq (p : PassRecord) (s : State) : ∃ plans episode events, s.completePass p =
      { s.setGroup p.group (s.passResult p) with
        plans, sweep := { dirty := s.sweep.dirty, cursor := p.group + 1, pass := none, episode }, events }
    ∧ (plans = s.plans.exchange ∧ p.flags.replan = true ∧ s.plans.swapInFlight = true
        ∧ (s.setGroup p.group (s.passResult p)).replansRemaining = 0
      ∨ plans = s.plans ∧ (p.flags.replan = true → s.plans.swapInFlight = true →
        (s.setGroup p.group (s.passResult p)).replansRemaining ≠ 0)) := by
  obtain ⟨m, hm⟩ : ∃ m : State, m = { s.setGroup p.group (s.passResult p) with
    sweep := (s.setGroup p.group (s.passResult p)).sweep.finish p.group } := ⟨_, rfl⟩
  have hleft : m.replansRemaining = (s.setGroup p.group (s.passResult p)).replansRemaining := by
    rw [hm]
    unfold State.replansRemaining
    rfl
  obtain ⟨es, hraised⟩ : ∃ es, s.completePass p = (m.handReplan p.flags.replan).1.closeEpisode.1.raiseAll es := by
    rw [hm]
    exact ⟨_, rfl⟩
  obtain ⟨plans, hhand, hplans⟩ := m.handReplan_eq p.flags.replan
  obtain ⟨ep, hclose⟩ := (m.handReplan p.flags.replan).1.closeEpisode_eq
  rw [hleft, hm] at hplans
  refine ⟨plans, ep, (s.completePass p).events, ?_, hplans⟩
  rw [hraised, State.raiseAll_frame]
  generalize ((m.handReplan p.flags.replan).1.closeEpisode.1.raiseAll es).events = events
  rw [hclose, hhand, hm]
  rfl

/-- R100: a pass begun writes the sweep engine alone. -/
theorem passBegin_frame (s : State) : passBegin s = { s with sweep := (passBegin s).sweep } := by
  unfold passBegin
  repeat' split
  all_goals rfl

/-! ### The step -/

theorem whenRunning_moves {f : State → State} (hf : ∀ s : State, s.Moves (f s)) {s t : State}
    (ht : whenRunning s f = .next t) : s.Moves t := by
  unfold whenRunning at ht
  cases ht
  split
  · exact .refl s
  · exact hf s

/-- Every row of the table is a chain of moves. -/
theorem exec_moves (i : Instr) {s t : State} (ht : exec i s = .next t) : s.Moves t := by
  have command : ∀ tag c, whenRunning s (receiveCommand tag c) = .next t → s.Moves t := fun tag c =>
    whenRunning_moves (receiveCommand_moves tag c)
  cases i with
  | losAssert u => cases ht; exact losEdge_moves u true s
  | losDeassert u => cases ht; exact losEdge_moves u false s
  | lossQualifyExpiry u => exact whenRunning_moves (lossQualifyExpiry_moves u) ht
  | lightQualifyExpiry u => exact whenRunning_moves (lightQualifyExpiry_moves u) ht
  | holdOffExpiry u => exact whenRunning_moves (holdOffExpiry_moves u) ht
  | waitToRestoreExpiry u => exact whenRunning_moves (waitToRestoreExpiry_moves u) ht
  | probeEmission u => exact whenRunning_moves (fun s => (probeEmission_quiet u s).moves) ht
  | continuityDeadlineExpiry u => exact whenRunning_moves (continuityDeadlineExpiry_moves u) ht
  | probeInReceived r => exact whenRunning_moves (recordArrival_moves r) ht
  | syncReceived r => exact whenRunning_moves (recordArrival_moves r) ht
  | lookupReqReceived r => exact whenRunning_moves (recordArrival_moves r) ht
  | faultyRecordReceived r =>
    cases r with
    | some r => exact whenRunning_moves (recordArrival_moves r) ht
    | none => exact whenRunning_moves (fun s => s.countHeaderError_quiet.moves) ht
  | silenceExpiry => exact whenRunning_moves (fun s => (silenceExpiry_quiet s).moves) ht
  | serviceBegin => exact whenRunning_moves serviceBegin_moves ht
  | recordTime => exact whenRunning_moves (fun s => (recordTime_quiet s).moves) ht
  | passBegin => exact whenRunning_moves (fun s => (State.Move.passBegun s).moves) ht
  | passComplete => exact whenRunning_moves passComplete_moves ht
  | lingerExpiry => exact whenRunning_moves (fun s => (lingerExpiry_quiet s).moves) ht
  | frameReceived body check => exact whenRunning_moves (takeBytes_moves _) ht
  | replySent => exact whenRunning_moves replySent_moves ht
  | identify tag => exact command tag .identify ht
  | getStatus tag => exact command tag .getStatus ht
  | setTime tag n => exact command tag (.setTime n) ht
  | setUplink tag f => exact command tag (.setUplink f) ht
  | getUplink tag u => exact command tag (.getUplink u) ht
  | setAdmin tag u m => exact command tag (.setAdmin u m) ht
  | forceRestore tag u => exact command tag (.forceRestore u) ht
  | clearLatch tag u => exact command tag (.clearLatch u) ht
  | setConduit tag c n => exact command tag (.setConduit c n) ht
  | writePlan tag f => exact command tag (.writePlan f) ht
  | clearPlan tag g => exact command tag (.clearPlan g) ht
  | copyActive tag => exact command tag .copyActive ht
  | readPlan tag g b => exact command tag (.readPlan g b) ht
  | swap tag => exact command tag .swap ht
  | readGroup tag g => exact command tag (.readGroup g) ht
  | rebalance tag x => exact command tag (.rebalance x) ht
  | setLane tag l e p r => exact command tag (.setLane l e p r) ht
  | setFwdlink tag n => exact command tag (.setFwdlink n) ht
  | setAlert tag n l u => exact command tag (.setAlert n l u) ht
  | fetchEvents tag n => exact command tag (.fetchEvents n) ht
  | reset tag => exact command tag .reset ht
  | resetInputAssert =>
    cases ht
    rw [State.finishResetReply_frame]
    exact (s.withControl_moves _).trans (State.Move.reset _ true).moves
  | resetInputRelease =>
    cases ht
    split
    · exact s.releaseReset_quiet.moves
    · exact .refl s
  | controlByteTaken b => exact whenRunning_moves (takeByte_moves b) ht

/-- So is a step: a row of the table, or the tick of an empty queue. -/
theorem step_moves {s t : State} (ht : step s = .next t) : s.Moves t := by
  unfold step at ht
  split at ht
  · cases ht
    unfold State.tick
    split
    · exact .refl s
    · exact State.Quiet.moves (.refl s)
  · rename_i rest _
    have hrest : s.Moves { s with pending := rest } := State.Quiet.moves (.refl s)
    exact hrest.trans (exec_moves _ ht)

end Sys2Proof.Machine
end

section
/-! The usable, tripped and shunned flags are exactly their conditions after every step (O54), and SET-CONDUIT (O20). -/

namespace Sys2Proof.Machine

/-! ### The flags as the conditions the part evaluates -/

/-- The three conditions of R52, R58 and R59 as the evaluation of R53 computes them. -/
def State.FlagsDue (s : State) : Prop :=
  (∀ c, (s.conduit c).tripped = s.trippedDue c) ∧ (∀ u, (s.uplink u).shunned = s.shunnedDue u)
    ∧ ∀ u, (s.uplink u).usable = (s.uplink u).usableDue

theorem State.trippedDue_iff (s : State) (c : Conduit) :
    s.trippedDue c = true ↔ (s.conduit c).tripCount ≠ 0 ∧ (s.conduit c).tripCount ≤ s.downCount c := by
  simp [State.trippedDue]

/-- R59: a member of a conduit is due to be shunned while it is monitored, not DOWN, and its conduit trips. -/
theorem State.shunnedDue_member {s : State} {u : Uplink} {c : Conduit} (h : (s.uplink u).settings.conduit = some c) :
    s.shunnedDue u = true ↔ (s.uplink u).monitored = true ∧ (s.uplink u).health ≠ .down ∧ s.trippedDue c = true := by
  simp [State.shunnedDue, h, and_assoc]

theorem State.shunnedDue_alone {s : State} {u : Uplink} (h : (s.uplink u).settings.conduit = none) :
    s.shunnedDue u = false := by
  simp [State.shunnedDue, h]

theorem State.shunnedDue_iff (s : State) (u : Uplink) :
    s.shunnedDue u = true ↔ (s.uplink u).monitored = true ∧ (s.uplink u).health ≠ .down
      ∧ ∃ c, (s.uplink u).settings.conduit = some c ∧ (s.conduit c).tripCount ≠ 0
        ∧ (s.conduit c).tripCount ≤ s.downCount c := by
  cases h : (s.uplink u).settings.conduit with
  | none => simp [State.shunnedDue_alone h]
  | some c => simp [State.shunnedDue_member h, State.trippedDue_iff]

theorem UplinkState.usableDue_iff (x : UplinkState) :
    x.usableDue = true ↔ x.admin = .active ∧ (x.health = .up ∨ x.health = .holdoff) ∧ x.shunned = false
      ∧ ¬ (x.degraded = true ∧ x.settings.policy = .fail) := by
  simp only [UplinkState.usableDue, UplinkState.degradedUnderFail, Bool.and_eq_true, Bool.or_eq_true,
    Bool.not_eq_true', decide_eq_true_eq, ← Bool.not_eq_true, and_assoc]

theorem usabilityExact_iff {s : State} : UsabilityExact s ↔ s.FlagsDue := by
  refine and_congr (forall_congr' fun c => ?_) (and_congr (forall_congr' fun u => ?_) (forall_congr' fun u => ?_))
  · rw [← State.trippedDue_iff, ← Bool.eq_iff_iff]
  · rw [← State.shunnedDue_iff, ← Bool.eq_iff_iff]
  · rw [← UplinkState.usableDue_iff, ← Bool.eq_iff_iff]

/-! ### The conditions read the same -/

/-- R52: the condition reads the admin mode, health, the shunned flag, the degraded flag and the policy. -/
theorem UplinkState.usableDue_congr {x y : UplinkState} (ha : y.admin = x.admin) (hh : y.health = x.health)
    (hs : y.shunned = x.shunned) (hd : y.degraded = x.degraded) (hp : y.settings.policy = x.settings.policy) :
    y.usableDue = x.usableDue := by
  unfold UplinkState.usableDue UplinkState.degradedUnderFail
  rw [ha, hh, hs, hd, hp]

/-- R58: the condition of a conduit reads its trip count and its DOWN count. -/
theorem State.trippedDue_congr {s t : State} {c : Conduit} (hn : (t.conduit c).tripCount = (s.conduit c).tripCount)
    (hd : t.downCount c = s.downCount c) : t.trippedDue c = s.trippedDue c := by
  unfold State.trippedDue
  rw [hn, hd]

/-- R59: the condition of an uplink reads its mode, health and membership, and the condition of its conduit. -/
theorem State.shunnedDue_congr {s t : State} {u : Uplink}
    (hm : (t.uplink u).settings.conduit = (s.uplink u).settings.conduit)
    (h : ∀ c, (s.uplink u).settings.conduit = some c → (t.uplink u).admin = (s.uplink u).admin
      ∧ (t.uplink u).health = (s.uplink u).health ∧ t.trippedDue c = s.trippedDue c) :
    t.shunnedDue u = s.shunnedDue u := by
  cases hc : (s.uplink u).settings.conduit with
  | none => rw [State.shunnedDue_alone (hm.trans hc), State.shunnedDue_alone hc]
  | some c =>
    obtain ⟨ha, hh, ht⟩ := h c hc
    rw [Bool.eq_iff_iff, State.shunnedDue_member (hm.trans hc), State.shunnedDue_member hc, hh, ht]
    unfold UplinkState.monitored
    rw [ha]

/-- Where the conduits stand and the uplinks are as they were for the flags, so are the flags. -/
theorem State.FlagsDue.of_quiet {s t : State} (hq : s.Quiet t) (h : s.FlagsDue) : t.FlagsDue := by
  obtain ⟨-, hc, hu⟩ := hq
  obtain ⟨htrip, hshun, huse⟩ := h
  have hcon : ∀ c, t.conduit c = s.conduit c := fun c => by unfold State.conduit; rw [hc]
  have hdue : ∀ c, t.trippedDue c = s.trippedDue c := fun c => by
    refine State.trippedDue_congr (by rw [hcon]) (State.downCount_congr fun u => ?_)
    obtain ⟨ha, hh, hset, -⟩ := hu u
    unfold UplinkState.countsDown UplinkState.monitored
    rw [ha, hh, hset]
  refine ⟨fun c => by rw [hcon, hdue, htrip], fun u => ?_, fun u => ?_⟩
  all_goals obtain ⟨ha, hh, hset, hdeg, hs, hus⟩ := hu u
  · rw [hs, hshun]
    exact (State.shunnedDue_congr (by rw [hset]) fun c _ => ⟨ha, hh, hdue c⟩).symm
  · rw [hus, huse]
    exact (UplinkState.usableDue_congr ha hh hs hdeg (by rw [hset])).symm

/-! ### The evaluation makes them so -/

theorem State.evaluateUsability_uplink_eq (touched : List Conduit) (events : List Event) (m s : State) (u : Uplink) :
    (m.evaluateUsability touched events s).uplink u = (State.usabilityFlags touched s m).uplink u := by
  unfold State.uplink
  rw [State.evaluateUsability_frame]

/-- An evaluation of usability moves no DOWN count. -/
theorem State.evaluateUsability_downCount (touched : List Conduit) (events : List Event) (m s : State) (c : Conduit) :
    (m.evaluateUsability touched events s).downCount c = m.downCount c := by
  refine State.downCount_congr fun u => ?_
  obtain ⟨a, b, e⟩ := State.evaluateUsability_uplink touched events m s u
  rw [e]
  exact Iff.rfl

/-- Nor any conduit's condition. -/
theorem State.evaluateUsability_trippedDue (touched : List Conduit) (events : List Event) (m s : State) (c : Conduit) :
    (m.evaluateUsability touched events s).trippedDue c = m.trippedDue c := by
  refine State.trippedDue_congr ?_ (State.evaluateUsability_downCount _ _ _ _ c)
  rw [State.evaluateUsability_conduit, State.usabilityFlags_conduit]
  split <;> rfl

/-- Nor any uplink's shunned condition. -/
theorem State.evaluateUsability_shunnedDue (touched : List Conduit) (events : List Event) (m s : State) (u : Uplink) :
    (m.evaluateUsability touched events s).shunnedDue u = m.shunnedDue u := by
  obtain ⟨a, b, e⟩ := State.evaluateUsability_uplink touched events m s u
  exact State.shunnedDue_congr (by rw [e]) fun c _ =>
    ⟨by rw [e], by rw [e], State.evaluateUsability_trippedDue _ _ _ _ c⟩

/-- R53, step 2: the shunned flag after an evaluation. -/
theorem State.evaluateUsability_shunned (touched : List Conduit) (events : List Event) (m s : State) (u : Uplink) :
    ((m.evaluateUsability touched events s).uplink u).shunned =
      if shunWritten touched (s.uplink u) (m.uplink u) then m.shunnedDue u else (m.uplink u).shunned := by
  have hdue : (m.writeTripped touched).shunnedDue u = m.shunnedDue u :=
    State.shunnedDue_congr rfl fun c _ => ⟨rfl, rfl, State.trippedDue_congr
      (by rw [State.conduit_writeTripped]; split <;> rfl) rfl⟩
  rw [State.evaluateUsability_uplink_eq]
  unfold State.usabilityFlags
  rw [State.uplink_writeUsable, State.uplink_writeShunned, State.uplink_writeTripped, hdue]
  split <;> split <;> rfl

/-- R53, step 3: the usable flag after an evaluation. -/
theorem State.evaluateUsability_usable (touched : List Conduit) (events : List Event) (m s : State) (u : Uplink) :
    ((m.evaluateUsability touched events s).uplink u).usable =
      if usableInputsChanged (s.uplink u) ((m.evaluateUsability touched events s).uplink u)
      then ((m.evaluateUsability touched events s).uplink u).usableDue else (m.uplink u).usable := by
  rw [State.evaluateUsability_uplink_eq]
  unfold State.usabilityFlags
  rw [State.uplink_writeUsable, State.uplink_writeShunned, State.uplink_writeTripped]
  split <;> split <;> simp_all [usableInputsChanged, UplinkState.usableDue, UplinkState.degradedUnderFail]

/-- R53: an uplink whose shunned flag an evaluation does not write keeps its membership, in a conduit that is not
evaluated or in none. -/
theorem shunWritten_eq_false {touched : List Conduit} {old x : UplinkState}
    (h : ¬ shunWritten touched old x = true) :
    x.settings.conduit = old.settings.conduit ∧ ∀ c, x.settings.conduit = some c → c ∉ touched := by
  unfold shunWritten at h
  rw [Bool.or_eq_true, not_or, decide_eq_true_eq, not_not] at h
  obtain ⟨hwritten, hsame⟩ := h
  refine ⟨hsame.symm, fun c hc => ?_⟩
  rw [hc] at hwritten
  simpa using hwritten

/-- R53: the usability evaluation makes every flag exactly its condition, if the flags were so before the change that
it follows. -/
theorem State.EvaluatedBy.flagsDue {touched : List Conduit} {s m : State} (hev : State.EvaluatedBy touched s m)
    (events : List Event) (h : s.FlagsDue) : (m.evaluateUsability touched events s).FlagsDue := by
  obtain ⟨htrip, hshun, huse⟩ := h
  have hdue : ∀ c, c ∉ touched → m.trippedDue c = s.trippedDue c := fun c hn => by
    obtain ⟨hcon, hdown⟩ := hev.conduit c hn
    exact State.trippedDue_congr (by rw [hcon]) hdown
  refine ⟨fun c => ?_, fun u => ?_, fun u => ?_⟩
  · rw [State.evaluateUsability_trippedDue, State.evaluateUsability_conduit, State.usabilityFlags_conduit]
    split
    · rfl
    · rename_i hn
      rw [(hev.conduit c hn).1, htrip, hdue c hn]
  · rw [State.evaluateUsability_shunnedDue, State.evaluateUsability_shunned]
    split
    · rfl
    · rename_i hn
      obtain ⟨hsame, hout⟩ := shunWritten_eq_false hn
      rw [(hev.flags u).1, hshun]
      refine (State.shunnedDue_congr hsame fun c hc => ?_).symm
      have hn : c ∉ touched := hout c (hsame.trans hc)
      obtain ⟨ha, hh⟩ := hev.member u c (hsame.trans hc) hc hn
      exact ⟨ha, hh, hdue c hn⟩
  · rw [State.evaluateUsability_usable]
    split
    · rfl
    · rename_i hn
      simp only [usableInputsChanged, Bool.or_eq_true, decide_eq_true_eq, not_or, not_not] at hn
      obtain ⟨⟨⟨⟨ha, hh⟩, hs⟩, hd⟩, hp⟩ := hn
      rw [(hev.flags u).2, huse]
      exact UplinkState.usableDue_congr ha hh hs hd hp

/-! ### Every step keeps them so (O54) -/

theorem TripCountsInRange.of_conduits {s t : State} (h : TripCountsInRange s) (hc : t.conduits = s.conduits) :
    TripCountsInRange t := fun c => by
  unfold State.conduit
  rw [hc]
  exact h c

/-- What changes neither an uplink nor a conduit keeps the flags' invariant. -/
theorem ConduitsSound.of_same {s t : State} (h : ConduitsSound s) (hu : t.uplinks = s.uplinks)
    (hc : t.conduits = s.conduits) : ConduitsSound t := by
  unfold ConduitsSound UsabilityExact TripCountsInRange State.downCount State.uplink State.conduit at h ⊢
  rwa [hu, hc]

/-- R62: at reset no flag is set, and none is due. -/
theorem State.toReset_conduitsSound (s : State) (held : Bool) : ConduitsSound (s.toReset held) := by
  have hcon : ∀ c, (s.toReset held).conduit c = ConduitState.reset := fun c => vector_get_replicate _ c
  have htrip : ∀ c, (s.toReset held).trippedDue c = false := fun c => by
    unfold State.trippedDue
    rw [hcon]
    rfl
  refine ⟨usabilityExact_iff.2 ⟨fun c => by rw [hcon, htrip]; rfl, fun u => ?_, fun u => ?_⟩,
    fun c => by rw [hcon]; exact Nat.zero_le 8⟩
  · have hset : ((s.toReset held).uplink u).settings.conduit = none := by rw [State.uplink_toReset]; rfl
    rw [State.shunnedDue_alone hset, State.uplink_toReset]
    rfl
  · rw [State.uplink_toReset]
    rfl

/-- Every move keeps the flags exact and the trip counts in range. -/
theorem State.Move.conduitsSound {s t : State} (hmove : s.Move t) (h : ConduitsSound s) : ConduitsSound t := by
  cases hmove with
  | quiet hq => exact ⟨usabilityExact_iff.2 ((usabilityExact_iff.1 h.1).of_quiet hq), h.2.of_conduits hq.2.1⟩
  | @evaluated m touched events hev =>
    refine ⟨usabilityExact_iff.2 (hev.flagsDue events (usabilityExact_iff.1 h.1)), fun c => ?_⟩
    have hcount : ((m.evaluateUsability touched events s).conduit c).tripCount = (m.conduit c).tripCount := by
      rw [State.evaluateUsability_conduit, State.usabilityFlags_conduit]
      split <;> rfl
    rw [hcount]
    rcases hev.tripCount c with hle | hsame
    · exact hle
    · rw [hsame]
      exact h.2 c
  | rebalanced => exact h.of_same (State.deliver_uplinks _ _ _) (State.deliver_conduits _ _ _)
  | shadowWritten => exact h
  | swapBegun => exact ConduitsSound.of_same h (State.deliver_uplinks _ _ _) (State.deliver_conduits _ _ _)
  | passBegun => rw [passBegin_frame]; exact h
  | @passCompleted p _ =>
    obtain ⟨plans, ep, ev, e, -⟩ := s.completePass_eq p
    rw [e]
    exact h
  | hitNoted => exact h
  | reset held => exact s.toReset_conduitsSound held

/-- Settles O54: every step is a chain of moves, and each keeps the flags exact. -/
theorem stepsKeepUsabilityExact : Obligations.StepsKeepUsabilityExact := by
  intro s t h ht
  exact (step_moves ht).keeps State.Move.conduitsSound h

end Sys2Proof.Machine
end

section
/-! SET-CONDUIT (O20). -/

namespace Sys2Proof.Machine

/-! ### The command and its judgement -/

theorem exec_setConduit {s : State} (hs : s.PortFree) (tag b trip : Byte) :
    exec (.setConduit tag b trip) s = .next (finish 0x15#8 tag (doSetConduit b trip s)) :=
  exec_rowOf hs tag (.setConduit b trip)

/-- R57: a conduit number up to 7 names that conduit. -/
theorem judgeConduit_some {b : Byte} {c : Conduit} (h : b.toNat = c.val) : judgeConduit b = some c := by
  unfold judgeConduit
  rw [dif_pos (by omega)]
  exact congrArg some (Fin.ext h)

theorem judgeConduit_none {b : Byte} (h : 7 < b.toNat) : judgeConduit b = none := by
  unfold judgeConduit
  rw [dif_neg (by omega)]

/-! ### The part after the trip count -/

/-- The part after a SET-CONDUIT that holds `n` as the trip count of `c`, before its reply. -/
def State.afterTripCount (c : Conduit) (n : Nat) (s : State) : State :=
  State.evaluateUsability [c] [] (s.setConduit c { s.conduit c with tripCount := n }) s

/-- R57: of the other conduits, the blocks beside the monitor and the alert settings nothing changes but the marks. -/
theorem State.afterTripCount_elsewhere (c : Conduit) (n : Nat) (s : State) :
    s.SameElsewhereThanConduit (s.afterTripCount c n) c := by
  obtain ⟨m, hm⟩ : ∃ m, m = s.setConduit c { s.conduit c with tripCount := n } := ⟨_, rfl⟩
  have hother : ∀ d, d ≠ c → (m.evaluateUsability [c] [] s).conduit d = s.conduit d := fun d hd => by
    rw [State.evaluateUsability_conduit, State.usabilityFlags_conduit, if_neg (by simpa using hd), hm,
      State.conduit_setConduit, if_neg (Ne.symm hd)]
  obtain ⟨hplans, hbuckets, hlookup, hcursor, hpass, -, htrigger, hlinger, hurgent, hheld, hpending⟩ :=
    State.evaluateUsability_same [c] [] m s 0 (m.uplink 0)
  rw [State.setUplink_same] at hplans hbuckets hlookup hcursor hpass htrigger hlinger hurgent hheld hpending
  have hmarks : s.MarksDirty (m.evaluateUsability [c] [] s) :=
    State.evaluateUsability_marks _ _ _ _ (by rw [hm]; rfl) (by rw [hm]; rfl) (by rw [hm]; rfl)
  have hclock := State.evaluateUsability_clock [c] [] m s
  have hfwd := State.evaluateUsability_fwd [c] [] m s
  unfold State.afterTripCount
  rw [← hm]
  rw [hm] at hplans hbuckets hlookup hcursor hpass htrigger hlinger hurgent hheld hpending hclock hfwd ⊢
  rw [hm] at hother hmarks
  exact ⟨hother, hclock, hplans, hbuckets, hlookup, hfwd, hcursor, hpass, htrigger, hlinger, hurgent, hheld, hpending,
    hmarks⟩

/-- R57, R58: the conduit itself. -/
theorem State.afterTripCount_conduit (c : Conduit) (n : Nat) (s : State) :
    ((s.afterTripCount c n).conduit c).tripCount = n
      ∧ (((s.afterTripCount c n).conduit c).tripped = true ↔ n ≠ 0 ∧ n ≤ s.downCount c) := by
  have hcon : (s.setConduit c { s.conduit c with tripCount := n }).conduit c = { s.conduit c with tripCount := n } := by
    rw [State.conduit_setConduit, if_pos rfl]
  unfold State.afterTripCount
  rw [State.evaluateUsability_conduit, State.usabilityFlags_conduit, if_pos (List.mem_singleton_self c)]
  refine ⟨by rw [hcon], (State.trippedDue_iff _ c).trans ?_⟩
  rw [hcon]
  exact Iff.rfl

theorem State.afterTripCount_downCount (c : Conduit) (n : Nat) (s : State) :
    (s.afterTripCount c n).downCount c = s.downCount c := State.evaluateUsability_downCount _ _ _ _ c

/-- R53: of an uplink no more than the two flags. -/
theorem State.afterTripCount_uplink (c : Conduit) (n : Nat) (s : State) (u : Uplink) :
    ∃ a b, (s.afterTripCount c n).uplink u = { s.uplink u with shunned := a, usable := b } :=
  State.evaluateUsability_uplink [c] [] (s.setConduit c { s.conduit c with tripCount := n }) s u

/-- R59: a member's shunned flag. -/
theorem State.afterTripCount_member {c : Conduit} {s : State} {u : Uplink} (n : Nat)
    (h : (s.uplink u).settings.conduit = some c) :
    ((s.afterTripCount c n).uplink u).shunned = true ↔ (s.uplink u).monitored = true ∧ (s.uplink u).health ≠ .down
      ∧ n ≠ 0 ∧ n ≤ s.downCount c := by
  have hwritten : shunWritten [c] (s.uplink u) (s.uplink u) = true := by simp [shunWritten, h]
  have hmem : ((s.setConduit c { s.conduit c with tripCount := n }).uplink u).settings.conduit = some c := h
  have hcon : (s.setConduit c { s.conduit c with tripCount := n }).conduit c = { s.conduit c with tripCount := n } := by
    rw [State.conduit_setConduit, if_pos rfl]
  unfold State.afterTripCount
  rw [State.evaluateUsability_shunned, State.setConduit_uplink, if_pos hwritten, State.shunnedDue_member hmem,
    State.trippedDue_iff, hcon]
  exact Iff.rfl

/-- R53: an uplink that is no member is not written. -/
theorem State.afterTripCount_other {c : Conduit} {s : State} {u : Uplink} (n : Nat)
    (h : (s.uplink u).settings.conduit ≠ some c) : (s.afterTripCount c n).uplink u = s.uplink u := by
  obtain ⟨m, hm⟩ : ∃ m, m = s.setConduit c { s.conduit c with tripCount := n } := ⟨_, rfl⟩
  have hu : m.uplink u = s.uplink u := by rw [hm]; rfl
  have hwritten : ¬ shunWritten [c] (s.uplink u) (m.uplink u) = true := by
    rw [hu]
    unfold shunWritten
    cases hc : (s.uplink u).settings.conduit with
    | none => simp
    | some d => simpa using fun hd : d = c => h (by rw [hc, hd])
  have hshun := State.evaluateUsability_shunned [c] [] m s u
  have huse := State.evaluateUsability_usable [c] [] m s u
  obtain ⟨a, b, e⟩ := State.evaluateUsability_uplink [c] [] m s u
  rw [if_neg hwritten, e, hu] at hshun
  simp only at hshun
  have hinputs : ¬ usableInputsChanged (s.uplink u) ((m.evaluateUsability [c] [] s).uplink u) = true := by
    rw [e, hu, hshun]
    simp [usableInputsChanged]
  rw [if_neg hinputs, e, hu] at huse
  simp only at huse
  unfold State.afterTripCount
  rw [← hm, e, hu, hshun, huse]

/-- R60: the events of the evaluation are the conduit's report. -/
theorem State.afterTripCount_hands (c : Conduit) (n : Nat) (s : State) :
    s.Hands (s.afterTripCount c n) (s.conduitReport (s.afterTripCount c n) c) := by
  have h := State.evaluateUsability_hands [c] [] (s.setConduit c { s.conduit c with tripCount := n }) s
  rw [List.nil_append, List.flatMap_singleton] at h
  exact h

/-- R57: SET-CONDUIT on a conduit of the part: the count at its nearest bound, and the reply on the state written. -/
theorem doSetConduit_good {s : State} {b : Byte} {c : Conduit} (trip : Byte) (h : b.toNat = c.val) :
    doSetConduit b trip s = (s.afterTripCount c (min 8 trip.toNat), .ok (decide (8 < trip.toNat))
      ([byte (min 8 trip.toNat)] ++ setBytes (Vector.ofFn fun u => decide ((s.uplink u).settings.conduit = some c))
        ++ [byte (s.downCount c),
          if ((s.afterTripCount c (min 8 trip.toNat)).conduit c).tripped then 1#8 else 0#8]
        ++ setBytes (Vector.ofFn fun u => decide ((s.uplink u).settings.conduit = some c)
            && ((s.afterTripCount c (min 8 trip.toNat)).uplink u).shunned))) := by
  have hset : ∀ u, ((s.afterTripCount c (min 8 trip.toNat)).uplink u).settings = (s.uplink u).settings := fun u => by
    obtain ⟨x, y, e⟩ := State.afterTripCount_uplink c (min 8 trip.toNat) s u
    rw [e]
  have hclamped : decide (min 8 trip.toNat ≠ trip.toNat) = decide (8 < trip.toNat) :=
    decide_eq_decide.2 (by omega)
  unfold doSetConduit
  rw [judgeConduit_some h]
  simp only [clampTo_zero_eq, hclamped, State.members, State.shunnedMembers, flagByte]
  rw [← State.afterTripCount, State.afterTripCount_downCount]
  simp only [hset]

/-- Settles O20. -/
theorem setConduitEvaluatesTheConduit : Obligations.SetConduitEvaluatesTheConduit := by
  intro tag b trip s hs
  rw [exec_setConduit hs]
  refine ⟨fun c hc => ?_, fun hb => ?_⟩
  · obtain ⟨hcount, htripped⟩ := State.afterTripCount_conduit c (min 8 trip.toNat) s
    rw [doSetConduit_good trip hc]
    exact ⟨_, rfl, State.afterTripCount_elsewhere c _ s, hcount, htripped, State.afterTripCount_uplink c _ s,
      fun u hm => State.afterTripCount_member _ hm, fun u hm => State.afterTripCount_other _ hm,
      State.afterTripCount_hands c _ s, State.answers_finish _ _ _ (State.evaluateUsability_control _ _ _ _)⟩
  · have hdo : doSetConduit b trip s = (s, .invalid .conduit none) := by
      unfold doSetConduit
      rw [judgeConduit_none hb]
      rfl
    rw [hdo]
    exact ⟨_, rfl, rfl, State.answers_finish _ _ _ rfl⟩

end Sys2Proof.Machine
end

section
/-! SUPPORT. What a pass computes leaves no bucket on a member that its snapshot has unusable (R90 to R94). -/

namespace Sys2Proof.Machine

/-! ### The usable set of a pass (R90) -/

theorem Plan.mem_weighted {p : Plan} {keep : Member → Bool} {e : Slot × Nat} :
    e ∈ p.weighted keep ↔ ∃ m, p.member e.1 = some m ∧ keep m = true ∧ e.2 = m.weight := by
  unfold Plan.weighted
  simp only [List.mem_filterMap, List.mem_finRange, true_and]
  constructor
  · rintro ⟨k, hk⟩
    cases hm : p.member k with
    | none => simp [hm] at hk
    | some m =>
      simp only [hm, Option.ite_none_right_eq_some, Option.some.injEq] at hk
      obtain ⟨hkeep, rfl⟩ := hk
      exact ⟨m, hm, hkeep, rfl⟩
  · rintro ⟨m, hm, hkeep, hw⟩
    exact ⟨e.1, by simp [hm, hkeep, ← hw]⟩

/-- R84: a plan of at most 8 members has each in a slot. -/
theorem Plan.exists_slot {p : Plan} (h : p.members.length ≤ 8) {m : Member} (hm : m ∈ p.members) :
    ∃ k, p.member k = some m := by
  obtain ⟨i, hi, e⟩ := List.mem_iff_getElem.1 hm
  exact ⟨⟨i, by omega⟩, by simp [Plan.member, hi, e]⟩

theorem Plan.mem_of_member {p : Plan} {k : Slot} {m : Member} (h : p.member k = some m) : m ∈ p.members :=
  List.mem_of_getElem? h

/-- R90, R94: the usable set is empty, and the group evacuated, exactly if no member is usable in the snapshot. -/
theorem passEvacuated_iff {p : Plan} (h : p.members.length ≤ 8) (snapshot : UplinkSet) :
    passEvacuated p snapshot = true ↔ ∀ m ∈ p.members, snapshot.get m.uplink = false := by
  unfold passEvacuated Plan.usableSet
  rw [List.isEmpty_iff, List.eq_nil_iff_forall_not_mem]
  constructor
  · intro hnone m hm
    obtain ⟨k, hk⟩ := Plan.exists_slot h hm
    exact Bool.eq_false_iff.2 fun hu => hnone (k, m.weight) (Plan.mem_weighted.2 ⟨m, hk, hu, rfl⟩)
  · intro hall e he
    obtain ⟨m, hm, hu, -⟩ := Plan.mem_weighted.1 he
    rw [hall m (Plan.mem_of_member hm)] at hu
    cases hu

/-- R90: every slot of the usable set is usable. -/
theorem Plan.slotUsable_of_usableSet {p : Plan} {snapshot : UplinkSet} {e : Slot × Nat}
    (h : e ∈ p.usableSet snapshot) : p.slotUsable snapshot e.1 = true := by
  obtain ⟨m, hm, hu, -⟩ := Plan.mem_weighted.1 h
  simp [Plan.slotUsable, hm, hu]

/-! ### The deal (R92, R93) -/

theorem greatest_eq_none {d : List (Slot × Int)} (h : greatest d = none) : d = [] := by
  cases d with
  | nil => rfl
  | cons e rest =>
    simp only [greatest] at h
    split at h
    · cases h
    · split at h <;> cases h

theorem greatest_mem {d : List (Slot × Int)} {e : Slot × Int} (h : greatest d = some e) : e ∈ d := by
  induction d with
  | nil => cases h
  | cons a rest ih =>
    simp only [greatest] at h
    split at h
    · cases h
      exact List.mem_cons_self
    · rename_i x hx
      split at h
      · cases h
        exact List.mem_cons_self
      · cases h
        exact List.mem_cons_of_mem _ (ih hx)

/-- R93: the slots dealt to stay as they are while deficits fall. -/
theorem giveOne_slots (k : Slot) (d : List (Slot × Int)) : (giveOne k d).map (·.1) = d.map (·.1) := by
  unfold giveOne
  rw [List.map_map]
  refine List.map_congr_left fun e _ => ?_
  simp only [Function.comp]
  split <;> rfl

theorem deficits_slots (targets : List (Slot × Nat)) (a : List Bucket) :
    (deficits targets a).map (·.1) = targets.map (·.1) := by
  unfold deficits
  rw [List.map_map]
  rfl

theorem apportion_slots (S : List (Slot × Nat)) : (apportion S).map (·.1) = S.map (·.1) := by
  unfold apportion
  rw [List.map_map]
  rfl

/-- R93: with a usable slot to deal to, no orphan is left. -/
theorem dealFrom_no_orphan {p : Plan} {snapshot : UplinkSet} {d : List (Slot × Int)} (hd : d ≠ [])
    (hs : ∀ k ∈ d.map (·.1), p.slotUsable snapshot k = true) (a : List Bucket) :
    ∀ b ∈ dealFrom p snapshot d a, isOrphan p snapshot b = false := by
  induction a generalizing d with
  | nil => simp [dealFrom]
  | cons b rest ih =>
    simp only [dealFrom]
    split
    · cases hg : greatest d with
      | none => exact absurd (greatest_eq_none hg) hd
      | some e =>
        have hslots := giveOne_slots e.1 d
        have hgiven : giveOne e.1 d ≠ [] := fun hnil => hd (by
          rw [hnil] at hslots
          exact List.map_eq_nil_iff.1 hslots.symm)
        intro x hx
        rcases List.mem_cons.1 hx with rfl | hx
        · simpa [isOrphan] using hs e.1 (List.mem_map_of_mem (greatest_mem hg))
        · exact ih hgiven (by rwa [hslots]) x hx
    · rename_i horphan
      intro x hx
      rcases List.mem_cons.1 hx with rfl | hx
      · simpa using horphan
      · exact ih hd hs x hx

/-- R94: with a member usable in the snapshot, no bucket is left on one that is not. -/
theorem passArray_no_orphan {p : Plan} {snapshot : UplinkSet} (h : passEvacuated p snapshot = false)
    (rebalance : Bool) (a : BucketArray) (b : BucketNo) :
    isOrphan p snapshot ((passArray p rebalance snapshot a).get b) = false := by
  unfold passEvacuated at h
  obtain ⟨r, hr⟩ : ∃ r, r = revertStep p rebalance snapshot a := ⟨_, rfl⟩
  have hslots : (deficits (apportion (p.usableSet snapshot)) r.toList).map (·.1) =
      (p.usableSet snapshot).map (·.1) := (deficits_slots _ _).trans (apportion_slots _)
  have hne : deficits (apportion (p.usableSet snapshot)) r.toList ≠ [] := fun hnil => by
    rw [hnil] at hslots
    rw [List.map_eq_nil_iff.1 hslots.symm] at h
    cases h
  have hdeal := dealFrom_no_orphan (p := p) (snapshot := snapshot) hne (fun k hk => by
    rw [hslots] at hk
    obtain ⟨e, he, rfl⟩ := List.mem_map.1 hk
    exact Plan.slotUsable_of_usableSet he) r.toList
  unfold passArray dealStep
  simp only [← hr, h, Bool.false_eq_true, if_false]
  apply hdeal
  simp [Vector.get]

/-- R92: a bucket that is no orphan stands on a member usable in the snapshot. -/
theorem exists_member_of_not_orphan {p : Plan} {snapshot : UplinkSet} {b : Bucket}
    (h : isOrphan p snapshot b = false) :
    ∃ k m, b.current = some k ∧ p.member k = some m ∧ snapshot.get m.uplink = true := by
  unfold isOrphan at h
  cases hc : b.current with
  | none => simp [hc] at h
  | some k =>
    simp only [hc, Bool.not_eq_false', Plan.slotUsable] at h
    cases hm : p.member k with
    | none => simp [hm] at h
    | some m => exact ⟨k, m, rfl, hm, by simpa [hm] using h⟩

/-! ### What a pass writes into its group (R103, R107 to R111) -/

theorem GroupBuckets.array_setArray (x : GroupBuckets) (b : Bank) (a : BucketArray) : (x.setArray b a).array b = a := by
  cases b <;> rfl

theorem GroupBuckets.setArray_selector (x : GroupBuckets) (b : Bank) (a : BucketArray) :
    (x.setArray b a).selector = x.selector := by
  cases b <;> rfl

/-- R108, R111: a replan pass moves its group to the other bank; an ordinary pass leaves it where it is. -/
theorem State.passResult_selector (s : State) (p : PassRecord) : (s.passResult p).selector =
    if p.flags.replan then (s.group p.group).selector.other else (s.group p.group).selector := by
  unfold State.passResult replanResult ordinaryResult
  cases p.flags.replan with
  | true => simp only [if_true]; split <;> rfl
  | false =>
    simp only [Bool.false_eq_true, if_false]
    split
    · exact GroupBuckets.setArray_selector _ _ _
    · rfl

/-- R100: the plan of a pass is the one the group is served from once it completes. -/
theorem State.passPlan_eq (s : State) (p : PassRecord) :
    s.passPlan p = s.planIn (s.passResult p).selector p.group := by
  rw [State.passResult_selector]
  unfold State.passPlan
  split <;> rfl

/-- R103, R107, R109: a pass of a planned group writes a pass's array and its evacuated flag. -/
theorem State.passResult_planned {s : State} {p : PassRecord} (h : (s.passPlan p).planned = true) :
    (∃ a, (s.passResult p).array (s.passResult p).selector = passArray (s.passPlan p) p.flags.rebalance p.snapshot a)
      ∧ (s.passResult p).evacuated = passEvacuated (s.passPlan p) p.snapshot := by
  rw [State.passResult_selector]
  unfold State.passResult replanResult ordinaryResult
  cases p.flags.replan with
  | true =>
    simp only [if_true, h, Bool.not_true, Bool.false_eq_true, if_false, and_true]
    exact ⟨_, GroupBuckets.array_setArray _ _ _⟩
  | false =>
    simp only [Bool.false_eq_true, if_false, h, if_true, and_true]
    exact ⟨_, GroupBuckets.array_setArray _ _ _⟩

end Sys2Proof.Machine
end

section
/-! Every group that is neither marked nor under a pass is settled after every step (O59). -/

namespace Sys2Proof.Machine

/-! ### The invariant of the moves -/

/-- R64: no record of either bank has more than 8 members. -/
def PlansShort (s : State) : Prop := ∀ b g, (s.planIn b g).members.length ≤ 8

/-- What the moves keep together: the settled groups and the snapshot in flight, with what they need of the plans and of
the swap. -/
def SettlingSound (s : State) : Prop := PlansShort s ∧ SwapSound s ∧ Settled s ∧ SnapshotCovered s

theorem SweepSound.settlingSound {s : State} (h : SweepSound s) : SettlingSound s := by
  obtain ⟨⟨-, hplans, hswap, -⟩, -, hsettled, hcovered⟩ := h
  exact ⟨fun b g => (hplans b g).1, hswap, hsettled, hcovered⟩

/-- R74, R112: the group's one replan pass of a swap is to come. -/
def State.replanDue (s : State) (g : Group) : Prop := s.replanQueued g ∨ s.underReplan g = true

/-- R66, R74, R112: `SwapSound` by whether a swap is in flight. -/
theorem swapSound_iff {s : State} : SwapSound s ↔ GroupMap.sorted s.sweep.dirty
    ∧ (∀ g, ¬ (s.replanQueued g ∧ s.underReplan g = true))
    ∧ (s.plans.swapInFlight = true →
        (∃ g, (s.group g).selector = s.plans.active) ∧ ∀ g, (s.group g).selector = s.plans.active ↔ s.replanDue g)
    ∧ (s.plans.swapInFlight = false → ∀ g, (s.group g).selector = s.plans.active ∧ ¬ s.replanDue g) := by
  unfold SwapSound State.replanDue
  refine and_congr_right fun _ => and_congr_right fun _ => ?_
  cases s.plans.swapInFlight <;> simp [forall_and]

/-! ### A pass in flight -/

theorem State.underReplan_of_pass {s : State} {p : PassRecord} (h : s.sweep.pass = some p) (g : Group) :
    s.underReplan g = true ↔ p.group = g ∧ p.flags.replan = true := by
  simp [State.underReplan, h]

theorem State.underReplan_idle {s : State} (h : s.sweep.pass = none) (g : Group) : s.underReplan g = false := by
  simp [State.underReplan, h]

/-- R134: a group is settled where no entry and no pass stands for it. -/
theorem State.unsettled_eq_false {s : State} {g : Group} :
    s.unsettled g = false ↔ GroupMap.find s.sweep.dirty g = none ∧ ∀ p ∈ s.sweep.pass, p.group ≠ g := by
  unfold State.unsettled
  cases s.sweep.pass <;> simp

theorem State.marksFor_iff (s : State) (u : Uplink) (g : Group) :
    s.marksFor u g = true ↔ (s.servedPlan g).names u = true
      ∨ s.underReplan g = true ∧ (s.planIn (s.group g).selector.other g).names u = true := by
  simp [State.marksFor]

/-- R54: outside a replan pass on the group its served plan decides. -/
theorem State.marksFor_of_not_replan {s : State} {g : Group} (h : s.underReplan g = false) (u : Uplink) :
    s.marksFor u g = (s.servedPlan g).names u := by
  simp [State.marksFor, h]

theorem Plan.names_of_mem {p : Plan} {m : Member} (h : m ∈ p.members) : p.names m.uplink = true := by
  simpa [Plan.names] using ⟨m, h, rfl⟩

/-! ### Groups marked, the pass and the served plans standing -/

/-- `t` is `s` with perhaps more groups marked, without a replan flag: every group is served as it was, the pass in
flight and the swap stand, and each usability change has marked the groups it is due to mark (R54, R55). -/
structure State.Remarked (s t : State) : Prop where
  active : t.plans.active = s.plans.active
  swap : t.plans.swapInFlight = s.plans.swapInFlight
  short : PlansShort s → PlansShort t
  group : ∀ g, ∃ hit, t.group g = { s.group g with unplannedHit := hit }
  served : ∀ g, t.servedPlan g = s.servedPlan g
  marksFor : ∀ u g, t.marksFor u g = s.marksFor u g
  pass : t.sweep.pass = s.sweep.pass
  sorted : GroupMap.sorted s.sweep.dirty → GroupMap.sorted t.sweep.dirty
  kept : ∀ g, (GroupMap.find s.sweep.dirty g).isSome → (GroupMap.find t.sweep.dirty g).isSome
  marked : ∀ u g, (t.uplink u).usable ≠ (s.uplink u).usable → s.marksFor u g = true →
    (GroupMap.find t.sweep.dirty g).isSome
  replan : ∀ g, t.replanQueued g ↔ s.replanQueued g

section Remarked
variable {s t : State} (hr : State.Remarked s t)
include hr

theorem State.Remarked.selector (g : Group) : (t.group g).selector = (s.group g).selector := by
  obtain ⟨hit, e⟩ := hr.group g
  rw [e]

theorem State.Remarked.underReplan (g : Group) : t.underReplan g = s.underReplan g := by
  unfold State.underReplan
  rw [hr.pass]

/-- R66, R74: marks without a replan flag are no part of a swap. -/
theorem State.Remarked.swapSound (h : SwapSound s) : SwapSound t := by
  obtain ⟨hsorted, hexclusive, hleft, hserved⟩ := h
  refine ⟨hr.sorted hsorted, fun g => ?_, fun hf => ?_, fun g => ?_⟩
  · rw [hr.replan, hr.underReplan]
    exact hexclusive g
  · obtain ⟨g, hg⟩ := hleft (hr.swap ▸ hf)
    exact ⟨g, by rw [hr.selector, hr.active, hg]⟩
  · rw [hr.swap, hr.selector, hr.active, hr.replan, hr.underReplan]
    exact hserved g

/-- R54, R55: a group that stays unmarked stays settled, for no member of its plan has changed. -/
theorem State.Remarked.settled (h : Settled s) : Settled t := by
  intro g hplanned hg
  rw [State.unsettled_eq_false, hr.pass] at hg
  obtain ⟨hdirty, hpass⟩ := hg
  have hclear : GroupMap.find s.sweep.dirty g = none := by
    cases hs : GroupMap.find s.sweep.dirty g with
    | none => rfl
    | some f => simpa [hdirty] using hr.kept g (by simp [hs])
  have huse : ∀ m ∈ (s.servedPlan g).members, (t.uplink m.uplink).usable = (s.uplink m.uplink).usable := fun m hm => by
    by_contra hne
    have := hr.marked m.uplink g hne ((s.marksFor_iff _ g).2 (.inl (Plan.names_of_mem hm)))
    simp [hdirty] at this
  have hsome : t.someUsable (s.servedPlan g) ↔ s.someUsable (s.servedPlan g) :=
    exists_congr fun m => and_congr_right fun hm => by rw [huse m hm]
  obtain ⟨hit, e⟩ := hr.group g
  have harray : t.servedArray g = s.servedArray g := by
    unfold State.servedArray
    rw [e]
    cases (s.group g).selector <;> rfl
  rw [hr.served] at hplanned ⊢
  rw [hsome, harray, e]
  refine (h g hplanned (State.unsettled_eq_false.2 ⟨hclear, hpass⟩)).imp (fun hon => ?_) id
  obtain ⟨hany, hevac, hon⟩ := hon
  refine ⟨hany, hevac, fun b => ?_⟩
  obtain ⟨k, m, hk, hm, hu⟩ := hon b
  exact ⟨k, m, hk, hm, (huse m (Plan.mem_of_member hm)).trans hu⟩

/-- R55: the snapshot of the pass in flight stays covered. -/
theorem State.Remarked.snapshotCovered (h : SnapshotCovered s) : SnapshotCovered t := by
  intro p hp u hmarks hne
  rw [hr.pass] at hp
  rw [hr.marksFor] at hmarks
  by_cases hu : (t.uplink u).usable = (s.uplink u).usable
  · exact hr.kept _ (h p hp u hmarks (hu ▸ hne))
  · exact hr.marked u _ hu hmarks

theorem State.Remarked.settlingSound (h : SettlingSound s) : SettlingSound t := by
  obtain ⟨hshort, hswap, hsettled, hcovered⟩ := h
  exact ⟨hr.short hshort, hr.swapSound hswap, hr.settled hsettled, hr.snapshotCovered hcovered⟩

end Remarked

/-! ### The moves that only mark -/

theorem State.planIn_congr {s t : State} (h : t.plans = s.plans) (b : Bank) (g : Group) :
    t.planIn b g = s.planIn b g := by
  unfold State.planIn
  rw [h]

theorem State.group_congr {s t : State} (h : t.buckets = s.buckets) (g : Group) : t.group g = s.group g := by
  unfold State.group
  rw [h]

/-- R54, R55: which groups an uplink's change is due to mark is read off the plans, the selectors and the pass. -/
theorem State.marksFor_congr {s t : State} {g : Group} (hsel : (t.group g).selector = (s.group g).selector)
    (hpass : t.sweep.pass = s.sweep.pass) (hp : ∀ b, t.planIn b g = s.planIn b g) (u : Uplink) :
    t.marksFor u g = s.marksFor u g := by
  unfold State.marksFor State.servedPlan State.underReplan
  rw [hsel, hpass, hp, hp]

/-- R97: a mark without the replan flag asks for no replan and takes none back. -/
theorem State.replanQueued_of_marks {s t : State} {g : Group} {marked : Bool} {f : DirtyFlags} (hf : f.replan = false)
    (h : GroupMap.find t.sweep.dirty g =
      if marked then some (DirtyFlags.merge (GroupMap.find s.sweep.dirty g) f) else GroupMap.find s.sweep.dirty g) :
    t.replanQueued g ↔ s.replanQueued g := by
  unfold State.replanQueued
  rw [h]
  cases marked <;> cases GroupMap.find s.sweep.dirty g <;> simp [DirtyFlags.merge, hf]

/-- A delivery of marks without the replan flag, where plans, buckets and the pass stand. -/
theorem State.Remarked.of_marks {s t : State} (marked : Group → Bool) {f : DirtyFlags} (hf : f.replan = false)
    (hp : t.plans = s.plans) (hb : t.buckets = s.buckets) (hpass : t.sweep.pass = s.sweep.pass)
    (hsorted : GroupMap.sorted s.sweep.dirty → GroupMap.sorted t.sweep.dirty)
    (hfind : ∀ g, GroupMap.find t.sweep.dirty g = if marked g then
      some (DirtyFlags.merge (GroupMap.find s.sweep.dirty g) f) else GroupMap.find s.sweep.dirty g)
    (hdue : ∀ u g, (t.uplink u).usable ≠ (s.uplink u).usable → s.marksFor u g = true → marked g = true) :
    State.Remarked s t where
  active := by rw [hp]
  swap := by rw [hp]
  short h b g := by rw [State.planIn_congr hp]; exact h b g
  group g := ⟨(s.group g).unplannedHit, State.group_congr hb g⟩
  served g := by unfold State.servedPlan; rw [State.group_congr hb, State.planIn_congr hp]
  marksFor u g :=
    State.marksFor_congr (by rw [State.group_congr hb]) hpass (fun b => State.planIn_congr hp b g) u
  pass := hpass
  sorted := hsorted
  kept g h := by
    rw [hfind]
    split
    · rfl
    · exact h
  marked u g hne hmarks := by rw [hfind, if_pos (hdue u g hne hmarks)]; rfl
  replan g := State.replanQueued_of_marks hf (hfind g)

theorem State.Quiet.remarked {s t : State} (h : s.Quiet t) : State.Remarked s t := by
  obtain ⟨⟨hp, hb, hs⟩, -, hu⟩ := h
  refine .of_marks (fun _ => false) (f := { replan := false, rebalance := false }) rfl hp hb (by rw [hs])
    (by rw [hs]; exact id) (fun g => by rw [hs]; rfl) fun u g hne => ?_
  obtain ⟨-, -, -, -, -, huse⟩ := hu u
  exact absurd huse hne

/-- R53, step 4: an evaluation marks the groups of each uplink whose usable flag it changes. -/
theorem State.EvaluatedBy.remarked {touched : List Conduit} {s m : State} (h : State.EvaluatedBy touched s m)
    (events : List Event) : State.Remarked s (m.evaluateUsability touched events s) := by
  obtain ⟨hp, hb, hs⟩ := h.groups
  obtain ⟨f, hf⟩ : ∃ f, f = State.usabilityFlags touched s m := ⟨_, rfl⟩
  have hfp : f.plans = s.plans := by rw [hf, State.usabilityFlags_frame]; exact hp
  have hfb : f.buckets = s.buckets := by rw [hf, State.usabilityFlags_frame]; exact hb
  have hfs : f.sweep = s.sweep := by rw [hf, State.usabilityFlags_frame]; exact hs
  have hsweep : (m.evaluateUsability touched events s).sweep = (f.markChanged (usableChanges s f)).sweep := by
    rw [State.evaluateUsability_eq, State.raiseAll_sweep, hf]
  have hmarksFor : ∀ u g, f.marksFor u g = s.marksFor u g := fun u g =>
    State.marksFor_congr (by rw [State.group_congr hfb]) (by rw [hfs]) (fun b => State.planIn_congr hfp b g) u
  refine .of_marks (fun g => (usableChanges s f).any fun u => f.marksFor u g)
    (f := { replan := false, rebalance := false }) rfl ?_ ?_ ?_ (fun hsorted => ?_) (fun g => ?_)
    fun u g hne hmarks => ?_
  · rw [State.evaluateUsability_frame]; exact hp
  · rw [State.evaluateUsability_frame]; exact hb
  · rw [(State.evaluateUsability_sweep touched events m s).2, hs]
  · rw [hsweep]
    unfold State.markChanged
    split
    · rw [hfs]; exact hsorted
    · exact State.deliver_sorted _ _ _
  · rw [hsweep, State.find_markChanged, hfs]
  · rw [State.evaluateUsability_uplink_eq, ← hf] at hne
    exact List.any_eq_true.2
      ⟨u, List.mem_filter.2 ⟨List.mem_finRange u, decide_eq_true hne.symm⟩, by rw [hmarksFor]; exact hmarks⟩

/-- R113: marks for rebalancing. -/
theorem State.deliver_remarked (s : State) (marked : Group → Bool) :
    State.Remarked s (s.deliver marked { replan := false, rebalance := true }) :=
  .of_marks marked rfl (State.deliver_plans _ _ _) (State.deliver_buckets _ _ _) (State.deliver_pass _ _ _)
    (fun _ => State.deliver_sorted _ _ _) (State.find_deliver _ _ _) fun u g hne => absurd (by simp) hne

/-- R129: a group's unplanned-hit flag written. -/
theorem State.hitNoted_remarked (s : State) (g : Group) :
    State.Remarked s (s.setGroup g { s.group g with unplannedHit := true }) := by
  have hgroup : ∀ k, ∃ hit, (s.setGroup g { s.group g with unplannedHit := true }).group k =
      { s.group k with unplannedHit := hit } := fun k => by
    rw [State.group_setGroup]
    split
    · rename_i h
      exact ⟨true, by rw [h]⟩
    · exact ⟨(s.group k).unplannedHit, rfl⟩
  have hsel : ∀ k, ((s.setGroup g { s.group g with unplannedHit := true }).group k).selector =
      (s.group k).selector := fun k => by
    obtain ⟨hit, e⟩ := hgroup k
    rw [e]
  exact {
    active := rfl, swap := rfl, short := id, group := hgroup, pass := rfl, sorted := id, kept := fun _ => id
    served := fun k => by unfold State.servedPlan; rw [hsel]; rfl
    marksFor := fun u k => State.marksFor_congr (hsel k) rfl (fun _ => rfl) u
    marked := fun u k hne => absurd rfl hne
    replan := fun k => Iff.rfl }

/-- R67, R70 to R72: outside a swap no group is served from the shadow bank, nor under a replan pass. -/
theorem State.shadowWritten_remarked {s : State} {bank : GroupMap Plan} (h : SwapSound s)
    (idle : s.plans.swapInFlight = false)
    (hbank : ∀ g, (GroupMap.get Plan.default bank g).members.length ≤ 8
      ∨ ∃ b, GroupMap.get Plan.default bank g = s.planIn b g) :
    State.Remarked s { s with plans := s.plans.setBank s.plans.shadow bank } := by
  obtain ⟨-, -, -, hserved⟩ := swapSound_iff.1 h
  have hactive : (s.plans.setBank s.plans.shadow bank).active = s.plans.active := by
    unfold PlanStore.setBank; split <;> rfl
  have hflight : (s.plans.setBank s.plans.shadow bank).swapInFlight = s.plans.swapInFlight := by
    unfold PlanStore.setBank; split <;> rfl
  have hread : ∀ b, (s.plans.setBank s.plans.shadow bank).bank b =
      if b = s.plans.active then s.plans.bank b else bank := fun b => by
    unfold PlanStore.shadow
    cases s.plans.active <;> cases b <;> rfl
  have hplan : ∀ g, ({ s with plans := s.plans.setBank s.plans.shadow bank } : State).servedPlan g =
      s.servedPlan g := fun g => by
    obtain ⟨hsel, -⟩ := hserved idle g
    unfold State.servedPlan State.planIn
    show GroupMap.get Plan.default ((s.plans.setBank s.plans.shadow bank).bank (s.group g).selector) g = _
    rw [hread, if_pos hsel]
  have hreplan : ∀ g, s.underReplan g = false := fun g => by
    obtain ⟨-, hdue⟩ := hserved idle g
    exact Bool.eq_false_iff.2 fun hu => hdue (.inr hu)
  exact {
    active := hactive, swap := hflight, served := hplan, pass := rfl, sorted := id, kept := fun _ => id
    short := fun hshort b g => by
      show (GroupMap.get Plan.default ((s.plans.setBank s.plans.shadow bank).bank b) g).members.length ≤ 8
      rw [hread]
      split
      · exact hshort b g
      · rcases hbank g with hle | ⟨b', e⟩
        · exact hle
        · rw [e]; exact hshort b' g
    group := fun g => ⟨(s.group g).unplannedHit, rfl⟩
    marksFor := fun u g => by
      refine (State.marksFor_of_not_replan
        (s := { s with plans := s.plans.setBank s.plans.shadow bank }) (hreplan g) u).trans ?_
      rw [hplan, State.marksFor_of_not_replan (hreplan g)]
    marked := fun u k hne => absurd rfl hne
    replan := fun k => Iff.rfl }

/-! ### A swap begun (R75) -/

theorem State.swapBegun_settlingSound {s : State} (idle : s.plans.swapInFlight = false) (h : SettlingSound s) :
    SettlingSound (State.deliver (fun _ => true) { replan := true, rebalance := false }
      { s with plans := { s.plans with swapInFlight := true } }) := by
  obtain ⟨hshort, hswap, -, -⟩ := h
  obtain ⟨-, -, -, hserved⟩ := swapSound_iff.1 hswap
  obtain ⟨m, hm⟩ : ∃ m : State, m = { s with plans := { s.plans with swapInFlight := true } } := ⟨_, rfl⟩
  obtain ⟨t, ht⟩ : ∃ t, t = m.deliver (fun _ => true) { replan := true, rebalance := false } := ⟨_, rfl⟩
  have hactive : t.plans.active = s.plans.active := by rw [ht, State.deliver_plans, hm]
  have hflight : t.plans.swapInFlight = true := by rw [ht, State.deliver_plans, hm]
  have hselector : ∀ g, (t.group g).selector = s.plans.active := fun g => by
    rw [ht, State.deliver_group, hm]
    obtain ⟨hsel, -⟩ := hserved idle g
    exact hsel
  have hunder : ∀ g, t.underReplan g = false := fun g => by
    obtain ⟨-, hdue⟩ := hserved idle g
    have hg : s.underReplan g = false := Bool.eq_false_iff.2 fun hu => hdue (.inr hu)
    unfold State.underReplan at hg ⊢
    rw [ht, State.deliver_pass, hm]
    exact hg
  have hfind : ∀ g, ∃ f, GroupMap.find t.sweep.dirty g = some f ∧ f.replan = true := fun g => by
    rw [ht, State.find_deliver, if_pos rfl]
    refine ⟨_, rfl, ?_⟩
    cases GroupMap.find m.sweep.dirty g <;> simp [DirtyFlags.merge]
  have hmarked : ∀ g, (GroupMap.find t.sweep.dirty g).isSome := fun g => by
    obtain ⟨f, e, -⟩ := hfind g
    simp [e]
  rw [← hm, ← ht]
  refine ⟨fun b g => ?_, swapSound_iff.2 ⟨by rw [ht]; exact State.deliver_sorted _ _ _, fun g hboth => ?_,
    fun _ => ⟨⟨0, by rw [hselector, hactive]⟩, fun g => ?_⟩, fun hf => ?_⟩, fun g _ hg => ?_,
    fun p _ u _ _ => hmarked p.group⟩
  · rw [ht, State.deliver_planIn, hm]
    exact hshort b g
  · rw [hunder] at hboth
    exact absurd hboth.2 (by simp)
  · exact iff_of_true (by rw [hselector, hactive]) (.inl (hfind g))
  · exact absurd (hflight.symm.trans hf) (by simp)
  · have := hmarked g
    rw [(State.unsettled_eq_false.1 hg).1] at this
    cases this

/-! ### A pass begun (R100) -/

/-- R99: the entry chosen is an entry of the dirty set. -/
theorem SweepState.choose_mem {w : SweepState} {e : Group × DirtyFlags} (h : w.choose = some e) : e ∈ w.dirty := by
  unfold SweepState.choose at h
  split at h
  · rename_i x hx
    cases h
    exact List.mem_of_find?_eq_some hx
  · exact List.mem_of_head? h

/-- R99, R100: a pass begun takes the entry of its group, with the usable flags as they stand. -/
theorem passBegin_cases (s : State) : passBegin s = s ∨ ∃ g f, s.sweep.pass = none ∧ (g, f) ∈ s.sweep.dirty
    ∧ passBegin s = { s with sweep := { s.sweep with
        dirty := GroupMap.erase g s.sweep.dirty,
        pass := some { group := g, flags := f, snapshot := s.usableFlags } } } := by
  unfold passBegin
  split
  · exact .inl rfl
  · rename_i hidle
    split
    · exact .inl rfl
    · rename_i g f hchoose
      exact .inr ⟨g, f, hidle, SweepState.choose_mem hchoose, rfl⟩

theorem passBegin_settlingSound {s : State} (h : SettlingSound s) : SettlingSound (passBegin s) := by
  obtain e | ⟨g, f, hidle, hmem, e⟩ := passBegin_cases s
  · rwa [e]
  obtain ⟨hshort, hswap, hsettled, -⟩ := h
  obtain ⟨hsorted, -, hflight, hidling⟩ := swapSound_iff.1 hswap
  obtain ⟨w, hw⟩ : ∃ w : SweepState, w = { s.sweep with
    dirty := GroupMap.erase g s.sweep.dirty, pass := some { group := g, flags := f, snapshot := s.usableFlags } } :=
    ⟨_, rfl⟩
  obtain ⟨t, ht⟩ : ∃ t : State, t = { s with sweep := w } := ⟨_, rfl⟩
  have hpass : t.sweep.pass = some { group := g, flags := f, snapshot := s.usableFlags } := by rw [ht, hw]
  have hdirty : ∀ k, GroupMap.find t.sweep.dirty k = if g = k then none else GroupMap.find s.sweep.dirty k :=
    fun k => by rw [ht, hw]; exact GroupMap.find_erase g _ k
  have hqueued : GroupMap.find s.sweep.dirty g = some f := GroupMap.find_of_mem hsorted hmem
  have hunder : ∀ k, t.underReplan k = true ↔ g = k ∧ f.replan = true := State.underReplan_of_pass hpass
  have hexclusive : ∀ k, ¬ (t.replanQueued k ∧ t.underReplan k = true) := fun k => by
    unfold State.replanQueued
    rw [hdirty, hunder]
    by_cases hk : g = k <;> simp [hk]
  have hduty : ∀ k, t.replanDue k ↔ s.replanDue k := fun k => by
    unfold State.replanDue State.replanQueued
    rw [State.underReplan_idle hidle, hdirty, hunder]
    by_cases hk : g = k
    · rw [← hk, hqueued]
      simp
    · simp [hk]
  rw [e, ← hw, ← ht]
  simp only [← hduty] at hflight hidling
  refine ⟨by rw [ht]; exact hshort, swapSound_iff.2 ⟨?_, hexclusive, ?_, ?_⟩, fun k hplanned hk => ?_,
    fun p hp u _ hne => ?_⟩
  · rw [ht, hw]
    exact GroupMap.erase_sorted hsorted
  · rw [ht] at hflight ⊢
    exact hflight
  · rw [ht] at hidling ⊢
    exact hidling
  · rw [State.unsettled_eq_false, hdirty, hpass] at hk
    obtain ⟨hclear, hother⟩ := hk
    have hgk : g ≠ k := hother _ rfl
    rw [if_neg hgk] at hclear
    rw [ht] at hplanned ⊢
    exact hsettled k hplanned (State.unsettled_eq_false.2 ⟨hclear, by simp [hidle]⟩)
  · rw [hpass] at hp
    cases hp
    exact absurd (by rw [ht]; exact vector_get_ofFn _ u) hne

/-! ### A pass completed (R105) -/

theorem Bank.other_ne : ∀ b : Bank, b.other ≠ b
  | .A => nofun
  | .B => nofun

theorem Bank.eq_other_of_ne : ∀ {b c : Bank}, b ≠ c → b = c.other
  | .A, .A, h => absurd rfl h
  | .A, .B, _ => rfl
  | .B, .A, _ => rfl
  | .B, .B, h => absurd rfl h

/-- R74: in flight, no replan remains exactly if no group is served from the active bank. -/
theorem State.replansRemaining_eq_zero {s : State} (h : s.plans.swapInFlight = true) :
    s.replansRemaining = 0 ↔ ∀ g, (s.group g).selector ≠ s.plans.active := by
  simp [State.replansRemaining, h, List.filter_eq_nil_iff]

/-- `t` is `s` with the pass `p` completed: the group holds the pass's result, every other group and the dirty set stand,
and the banks are exchanged exactly if the pass was the swap's last (R105, R112). -/
structure State.Completed (s : State) (p : PassRecord) (t : State) : Prop where
  group : ∀ g, t.group g = if p.group = g then s.passResult p else s.group g
  planIn : ∀ b g, t.planIn b g = s.planIn b g
  uplink : ∀ u, t.uplink u = s.uplink u
  dirty : t.sweep.dirty = s.sweep.dirty
  pass : t.sweep.pass = none
  swap : (p.flags.replan = true ∧ s.plans.swapInFlight = true ∧ t.plans.active = s.plans.active.other
      ∧ t.plans.swapInFlight = false ∧ ∀ g, (t.group g).selector ≠ s.plans.active)
    ∨ (t.plans.active = s.plans.active ∧ t.plans.swapInFlight = s.plans.swapInFlight
      ∧ (p.flags.replan = true → s.plans.swapInFlight = true → ∃ g, (t.group g).selector = s.plans.active))

theorem State.completePass_completed (s : State) (p : PassRecord) : State.Completed s p (s.completePass p) := by
  obtain ⟨plans, episode, events, e, hplans⟩ := s.completePass_eq p
  obtain ⟨t, ht⟩ : ∃ t, t = s.completePass p := ⟨_, rfl⟩
  rw [← ht] at e ⊢
  have hbuckets : t.buckets = (s.setGroup p.group (s.passResult p)).buckets := by rw [e]
  have hgroup : ∀ g, t.group g = (s.setGroup p.group (s.passResult p)).group g := State.group_congr hbuckets
  have hstores : t.plans = plans := by rw [e]
  have hbank : ∀ b, t.plans.bank b = s.plans.bank b := fun b => by
    rw [hstores]
    obtain ⟨rfl, -⟩ | ⟨rfl, -⟩ := hplans <;> cases b <;> rfl
  refine ⟨fun g => (hgroup g).trans (State.group_setGroup _ _ _ _), fun b g => ?_, fun u => by rw [e]; rfl,
    by rw [e], by rw [e], ?_⟩
  · unfold State.planIn
    rw [hbank]
  · rw [hstores]
    simp only [hgroup]
    obtain ⟨rfl, hreplan, hflight, hnone⟩ | ⟨rfl, hsome⟩ := hplans
    · exact .inl ⟨hreplan, hflight, rfl, rfl,
        (State.replansRemaining_eq_zero (s := s.setGroup p.group (s.passResult p)) hflight).1 hnone⟩
    · refine .inr ⟨rfl, rfl, fun hreplan hflight => ?_⟩
      have := mt (State.replansRemaining_eq_zero (s := s.setGroup p.group (s.passResult p)) hflight).2
        (hsome hreplan hflight)
      simpa using this

/-- R54, R100: a change of a member of the pass's plan is due to mark the group while the pass is in flight. -/
theorem State.marksFor_of_passPlan {s : State} {p : PassRecord} (hp : s.sweep.pass = some p) {m : Member}
    (hm : m ∈ (s.passPlan p).members) :
    s.marksFor m.uplink p.group = true := by
  have hnames := Plan.names_of_mem hm
  rw [State.passPlan_eq, State.passResult_selector] at hnames
  rw [State.marksFor_iff]
  split at hnames
  · rename_i hreplan
    exact .inr ⟨(State.underReplan_of_pass hp _).2 ⟨rfl, hreplan⟩, hnames⟩
  · exact .inl hnames

section Completed
variable {s t : State} {p : PassRecord} (hc : State.Completed s p t)
include hc

theorem State.Completed.selector (g : Group) : (t.group g).selector =
    if p.group = g ∧ p.flags.replan = true then (s.group g).selector.other else (s.group g).selector := by
  rw [hc.group]
  by_cases hg : p.group = g
  · rw [if_pos hg, State.passResult_selector, hg]
    simp
  · simp [hg]

theorem State.Completed.replanDue (g : Group) : t.replanDue g ↔ s.replanQueued g := by
  unfold State.replanDue State.replanQueued
  rw [State.underReplan_idle hc.pass, hc.dirty]
  simp

/-- R74: the groups still served from the bank that was active are those whose replan pass is to come. -/
theorem State.Completed.served (hp : s.sweep.pass = some p) (h : SwapSound s)
    (hf : s.plans.swapInFlight = true) (g : Group) :
    (t.group g).selector = s.plans.active ↔ t.replanDue g := by
  obtain ⟨-, hexclusive, hflight, -⟩ := swapSound_iff.1 h
  obtain ⟨-, hserved⟩ := hflight hf
  have hunder := State.underReplan_of_pass hp g
  rw [hc.replanDue, hc.selector]
  split
  · rename_i hg
    have hat := (hserved g).2 (.inr (hunder.2 hg))
    rw [hat]
    exact iff_of_false (Bank.other_ne _) fun hq => hexclusive g ⟨hq, hunder.2 hg⟩
  · rename_i hg
    rw [hserved g]
    exact or_iff_left fun hu => hg (hunder.1 hu)

/-- R112: a completion keeps the swap sound, and ends it with its last replan. -/
theorem State.Completed.swapSound (hp : s.sweep.pass = some p) (h : SwapSound s) : SwapSound t := by
  obtain ⟨hsorted, -, hflight, hidling⟩ := swapSound_iff.1 h
  have hserved := hc.served hp h
  refine swapSound_iff.2 ⟨by rw [hc.dirty]; exact hsorted, fun g => ?_, ?_⟩
  · rw [State.underReplan_idle hc.pass]
    simp
  obtain ⟨-, hf, hactive, hended, hnone⟩ | ⟨hactive, hstands, hsome⟩ := hc.swap
  · rw [hactive, hended]
    exact ⟨fun hfalse => absurd hfalse (by simp),
      fun _ g => ⟨Bank.eq_other_of_ne (hnone g), fun hdue => hnone g ((hserved hf g).2 hdue)⟩⟩
  · rw [hactive, hstands]
    refine ⟨fun hf => ⟨?_, hserved hf⟩, fun hf g => ?_⟩
    · by_cases hreplan : p.flags.replan = true
      · exact hsome hreplan hf
      · obtain ⟨⟨g, hg⟩, -⟩ := hflight hf
        exact ⟨g, by rw [hc.selector, if_neg fun hboth => hreplan hboth.2, hg]⟩
    · obtain ⟨hsel, hdue⟩ := hidling hf g
      rw [hc.selector, hc.replanDue, if_neg fun hboth => hdue (.inr ((State.underReplan_of_pass hp g).2 hboth))]
      exact ⟨hsel, fun hq => hdue (.inl hq)⟩

/-- R78, R100: the completed group is served from the pass's plan. -/
theorem State.Completed.servedPlan_self : t.servedPlan p.group = s.passPlan p := by
  unfold State.servedPlan
  rw [hc.planIn, hc.group, if_pos rfl, State.passPlan_eq]

/-- R110, R115: the completed group is settled by its pass, for the snapshot agrees with the usable flags on every
member of the pass's plan when no change has marked the group again. -/
theorem State.Completed.settled_self (hp : s.sweep.pass = some p) (hshort : PlansShort s) (hcovered : SnapshotCovered s)
    (hplanned : (s.passPlan p).planned = true) (hclear : GroupMap.find s.sweep.dirty p.group = none) :
    (t.someUsable (s.passPlan p) ∧ (t.group p.group).evacuated = false
      ∧ ∀ b : BucketNo, ∃ k m, ((t.servedArray p.group).get b).current = some k ∧ (s.passPlan p).member k = some m
          ∧ (t.uplink m.uplink).usable = true)
    ∨ (¬ t.someUsable (s.passPlan p) ∧ (t.group p.group).evacuated = true) := by
  have hsnapshot : ∀ m ∈ (s.passPlan p).members, p.snapshot.get m.uplink = (t.uplink m.uplink).usable := fun m hm => by
    by_contra hne
    rw [hc.uplink] at hne
    have := hcovered p hp m.uplink (State.marksFor_of_passPlan hp hm) hne
    simp [hclear] at this
  have hlength : (s.passPlan p).members.length ≤ 8 := by
    rw [State.passPlan_eq]
    exact hshort _ _
  have hself : t.group p.group = s.passResult p := by rw [hc.group, if_pos rfl]
  obtain ⟨⟨a, harray⟩, hevac⟩ := State.passResult_planned hplanned
  unfold State.servedArray
  rw [hself, harray, hevac]
  cases hempty : passEvacuated (s.passPlan p) p.snapshot with
  | true =>
    refine .inr ⟨?_, rfl⟩
    rintro ⟨m, hm, hu⟩
    rw [← hsnapshot m hm, (passEvacuated_iff hlength _).1 hempty m hm] at hu
    cases hu
  | false =>
    have hon : ∀ b : BucketNo, ∃ k m, ((passArray (s.passPlan p) p.flags.rebalance p.snapshot a).get b).current = some k
        ∧ (s.passPlan p).member k = some m ∧ (t.uplink m.uplink).usable = true := fun b => by
      obtain ⟨k, m, hk, hm, hu⟩ := exists_member_of_not_orphan (passArray_no_orphan hempty p.flags.rebalance a b)
      exact ⟨k, m, hk, hm, (hsnapshot m (Plan.mem_of_member hm)).symm.trans hu⟩
    obtain ⟨_, m, -, hm, hu⟩ := hon 0
    exact .inl ⟨⟨m, Plan.mem_of_member hm, hu⟩, rfl, hon⟩

/-- R115: a completion leaves every other group as it is and settles its own, unless that is marked again. -/
theorem State.Completed.settled (hp : s.sweep.pass = some p) (hshort : PlansShort s) (hcovered : SnapshotCovered s)
    (h : Settled s) : Settled t := by
  intro g hplanned hg
  rw [State.unsettled_eq_false, hc.dirty] at hg
  obtain ⟨hclear, -⟩ := hg
  by_cases hself : p.group = g
  · subst hself
    rw [hc.servedPlan_self] at hplanned ⊢
    exact hc.settled_self hp hshort hcovered hplanned hclear
  · have hgroup : t.group g = s.group g := by rw [hc.group, if_neg hself]
    have hplan : t.servedPlan g = s.servedPlan g := by
      unfold State.servedPlan
      rw [hc.planIn, hgroup]
    unfold State.someUsable State.servedArray
    simp only [hplan, hgroup, hc.uplink] at hplanned ⊢
    exact h g hplanned (State.unsettled_eq_false.2 ⟨hclear, by rw [hp]; rintro _ ⟨⟩; exact hself⟩)

end Completed

theorem State.completePass_settlingSound {s : State} {p : PassRecord} (hp : s.sweep.pass = some p)
    (h : SettlingSound s) : SettlingSound (s.completePass p) := by
  obtain ⟨hshort, hswap, hsettled, hcovered⟩ := h
  have hc := s.completePass_completed p
  refine ⟨fun b g => ?_, hc.swapSound hp hswap, hc.settled hp hshort hcovered hsettled, fun q hq => ?_⟩
  · rw [hc.planIn]
    exact hshort b g
  · rw [hc.pass] at hq
    cases hq

/-! ### A reset (R174) -/

/-- R116: after a reset no plan has a member, no group is marked and no pass is in flight. -/
theorem State.toReset_settlingSound (s : State) (held : Bool) : SettlingSound (s.toReset held) := by
  obtain ⟨⟨-, hplans, hswap, -⟩, -, -, -⟩ := State.reset_sweepSound
  refine ⟨fun b g => (hplans b g).1, hswap, fun g hplanned => ?_, fun p hp => nomatch hp⟩
  exact absurd ((State.servedPlan_reset g).symm.trans hplanned) (by simp)

/-! ### Every move -/

theorem State.Move.settlingSound {s t : State} (hmove : s.Move t) (h : SettlingSound s) : SettlingSound t := by
  cases hmove with
  | quiet hq => exact hq.remarked.settlingSound h
  | evaluated events he => exact (he.remarked events).settlingSound h
  | rebalanced marked => exact (State.deliver_remarked s marked).settlingSound h
  | shadowWritten idle hbank =>
    obtain ⟨-, hswap, -, -⟩ := id h
    exact (State.shadowWritten_remarked hswap idle hbank).settlingSound h
  | swapBegun idle => exact State.swapBegun_settlingSound idle h
  | passBegun => exact passBegin_settlingSound h
  | passCompleted hp => exact State.completePass_settlingSound hp h
  | hitNoted g => exact (State.hitNoted_remarked s g).settlingSound h
  | reset held => exact State.toReset_settlingSound s held

/-- Settles O59: every move keeps the settled groups and the snapshot covered, together with the swap, and so does every
step. -/
theorem stepsKeepGroupsSettled : Obligations.StepsKeepGroupsSettled := by
  intro s t h ht
  obtain ⟨-, -, hsettled, hcovered⟩ := (step_moves ht).keeps State.Move.settlingSound h.settlingSound
  exact ⟨hsettled, hcovered⟩

end Sys2Proof.Machine
end

section
/-! SUPPORT. One induction for every step: an invariant that the control port's own registers are no part of is kept by
every step, once each row that is no command and each command taken keep it. -/

namespace Sys2Proof.Machine

/-- `I` does not read the control port, and is kept by each command taken and by a reset. -/
structure KeptAtPort (I : State → Prop) : Prop where
  control : ∀ (c : ControlState) {s : State}, I s → I { s with control := c }
  command : ∀ (tag : Byte) (c : Command) {s : State}, I s → I (takeCommand tag c s)
  reset : ∀ (held : Bool) {s : State}, I s → I (s.toReset held)

/-- `I` is kept at the control port and by every row that comes from elsewhere. -/
structure KeptByRows (I : State → Prop) : Prop extends KeptAtPort I where
  pending : ∀ (rest : List Instr) {s : State}, I s → I { s with pending := rest }
  tick : ∀ {s : State}, I s → I s.tick
  release : ∀ {s : State}, I s → I s.releaseReset
  losEdge : ∀ (u : Uplink) (level : Bool) {s : State}, I s → I (losEdge u level s)
  lossQualifyExpiry : ∀ (u : Uplink) {s : State}, I s → I (lossQualifyExpiry u s)
  lightQualifyExpiry : ∀ (u : Uplink) {s : State}, I s → I (lightQualifyExpiry u s)
  holdOffExpiry : ∀ (u : Uplink) {s : State}, I s → I (holdOffExpiry u s)
  waitToRestoreExpiry : ∀ (u : Uplink) {s : State}, I s → I (waitToRestoreExpiry u s)
  probeEmission : ∀ (u : Uplink) {s : State}, I s → I (probeEmission u s)
  continuityDeadlineExpiry : ∀ (u : Uplink) {s : State}, I s → I (continuityDeadlineExpiry u s)
  recordArrival : ∀ (r : Record) {s : State}, I s → I (recordArrival r s)
  countHeaderError : ∀ {s : State}, I s → I s.countHeaderError
  silenceExpiry : ∀ {s : State}, I s → I (silenceExpiry s)
  serviceBegin : ∀ {s : State}, I s → I (serviceBegin s)
  recordTime : ∀ {s : State}, I s → I (recordTime s)
  passBegin : ∀ {s : State}, I s → I (passBegin s)
  passComplete : ∀ {s : State}, I s → I (passComplete s)
  lingerExpiry : ∀ {s : State}, I s → I (lingerExpiry s)

/-! ### The control port (chapter 10) -/

section Port
variable {I : State → Prop} (k : KeptAtPort I)
include k

/-- R165: the next command taken. -/
theorem KeptAtPort.takeNext {s : State} (h : I s) : I s.takeNext := by
  unfold State.takeNext
  split
  · split
    · exact h
    · exact k.command _ _ (k.control _ h)
  · exact h

/-- R164: a command offered to the queue. -/
theorem KeptAtPort.receiveCommand (tag : Byte) (c : Command) {s : State} (h : I s) :
    I (receiveCommand tag c s) := by
  unfold Machine.receiveCommand
  split
  · exact k.takeNext (k.control _ h)
  · exact k.control _ h

/-- R163: a frame received whole. -/
theorem KeptAtPort.receiveWhole (type tag : Byte) (payload : List Byte) {s : State} (h : I s) :
    I (receiveWhole type tag payload s) := by
  unfold Machine.receiveWhole
  split
  · exact k.control _ h
  · exact k.control _ h
  · exact k.receiveCommand _ _ h

/-- R162: a frame judged at its check. -/
theorem KeptAtPort.judgeFrame (frame : List Byte) {s : State} (h : I s) : I (judgeFrame frame s) := by
  have hunt : I s.hunt := k.control _ h
  have discarded : I s.discardFrame := k.control _ h
  unfold Machine.judgeFrame
  simp only
  repeat' split
  · exact k.receiveWhole _ _ _ hunt
  all_goals exact discarded

/-- R161: a byte taken, by the receiver's state. -/
theorem KeptAtPort.takeByte (b : Byte) {s : State} (h : I s) : I (takeByte b s) := by
  have kept : ∀ rx frame, I (s.keep rx frame) := fun _ _ => k.control _ h
  unfold Machine.takeByte
  cases s.control.rx with
  | hunting =>
    simp only
    split
    · exact kept _ _
    · exact h
  | length =>
    simp only
    split
    · exact kept _ _
    · split
      · exact kept _ _
      · exact k.control _ h
  | body => exact kept _ _
  | check =>
    simp only
    split
    · exact kept _ _
    · exact k.judgeFrame _ h

theorem KeptAtPort.takeBytes (bs : List Byte) {s : State} (h : I s) : I (takeBytes bs s) := by
  unfold Machine.takeBytes
  induction bs generalizing s with
  | nil => exact h
  | cons b bs ih => exact ih (k.takeByte b h)

/-- R166, R173: a reply's end. -/
theorem KeptAtPort.replySent {s : State} (h : I s) : I (replySent s) := by
  unfold Machine.replySent
  split
  · exact h
  · simp only
    split
    · exact k.reset _ (k.control _ h)
    · exact k.takeNext (k.control _ h)

end Port

/-! ### The step -/

/-- R174: a part that RESET holds does not act. -/
theorem whenRunning_kept {I : State → Prop} {f : State → State} {s t : State} (hf : I (f s)) (h : I s)
    (ht : whenRunning s f = .next t) : I t := by
  unfold whenRunning at ht
  cases ht
  split
  · exact h
  · exact hf

section Rows
variable {I : State → Prop} (k : KeptByRows I)
include k

/-- Every row of the table keeps what each of its meanings keeps. -/
theorem KeptByRows.exec (i : Instr) {s t : State} (h : I s) (ht : exec i s = .next t) : I t := by
  have command : ∀ tag c, whenRunning s (receiveCommand tag c) = .next t → I t := fun tag c =>
    whenRunning_kept (k.receiveCommand tag c h) h
  cases i with
  | losAssert u => cases ht; exact k.losEdge u true h
  | losDeassert u => cases ht; exact k.losEdge u false h
  | lossQualifyExpiry u => exact whenRunning_kept (k.lossQualifyExpiry u h) h ht
  | lightQualifyExpiry u => exact whenRunning_kept (k.lightQualifyExpiry u h) h ht
  | holdOffExpiry u => exact whenRunning_kept (k.holdOffExpiry u h) h ht
  | waitToRestoreExpiry u => exact whenRunning_kept (k.waitToRestoreExpiry u h) h ht
  | probeEmission u => exact whenRunning_kept (k.probeEmission u h) h ht
  | continuityDeadlineExpiry u => exact whenRunning_kept (k.continuityDeadlineExpiry u h) h ht
  | probeInReceived r => exact whenRunning_kept (k.recordArrival r h) h ht
  | syncReceived r => exact whenRunning_kept (k.recordArrival r h) h ht
  | lookupReqReceived r => exact whenRunning_kept (k.recordArrival r h) h ht
  | faultyRecordReceived r =>
    cases r with
    | some r => exact whenRunning_kept (k.recordArrival r h) h ht
    | none => exact whenRunning_kept (k.countHeaderError h) h ht
  | silenceExpiry => exact whenRunning_kept (k.silenceExpiry h) h ht
  | serviceBegin => exact whenRunning_kept (k.serviceBegin h) h ht
  | recordTime => exact whenRunning_kept (k.recordTime h) h ht
  | passBegin => exact whenRunning_kept (k.passBegin h) h ht
  | passComplete => exact whenRunning_kept (k.passComplete h) h ht
  | lingerExpiry => exact whenRunning_kept (k.lingerExpiry h) h ht
  | frameReceived body check => exact whenRunning_kept (k.takeBytes _ h) h ht
  | replySent => exact whenRunning_kept (k.replySent h) h ht
  | identify tag => exact command tag .identify ht
  | getStatus tag => exact command tag .getStatus ht
  | setTime tag n => exact command tag (.setTime n) ht
  | setUplink tag f => exact command tag (.setUplink f) ht
  | getUplink tag u => exact command tag (.getUplink u) ht
  | setAdmin tag u m => exact command tag (.setAdmin u m) ht
  | forceRestore tag u => exact command tag (.forceRestore u) ht
  | clearLatch tag u => exact command tag (.clearLatch u) ht
  | setConduit tag c n => exact command tag (.setConduit c n) ht
  | writePlan tag f => exact command tag (.writePlan f) ht
  | clearPlan tag g => exact command tag (.clearPlan g) ht
  | copyActive tag => exact command tag .copyActive ht
  | readPlan tag g b => exact command tag (.readPlan g b) ht
  | swap tag => exact command tag .swap ht
  | readGroup tag g => exact command tag (.readGroup g) ht
  | rebalance tag x => exact command tag (.rebalance x) ht
  | setLane tag l e p r => exact command tag (.setLane l e p r) ht
  | setFwdlink tag n => exact command tag (.setFwdlink n) ht
  | setAlert tag n l u => exact command tag (.setAlert n l u) ht
  | fetchEvents tag n => exact command tag (.fetchEvents n) ht
  | reset tag => exact command tag .reset ht
  | resetInputAssert =>
    cases ht
    rw [State.finishResetReply_frame]
    exact k.reset true (k.control _ h)
  | resetInputRelease =>
    cases ht
    split
    · exact k.release h
    · exact h
  | controlByteTaken b => exact whenRunning_kept (k.takeByte b h) h ht

/-- So does every step: a row of the table, or the tick of an empty queue. -/
theorem KeptByRows.step {s t : State} (h : I s) (ht : step s = .next t) : I t := by
  unfold Machine.step at ht
  split at ht
  · cases ht
    exact k.tick h
  · exact k.exec _ (k.pending _ h) ht

end Rows

end Sys2Proof.Machine
end

section
/-! SUPPORT. The operands of the plan and group commands judged: group numbers and codes, the checks of R68 one by one,
and the record that passes them. -/

namespace Sys2Proof.Machine

/-! ### Group numbers and codes -/

/-- R82: a group number up to 1,023 names that group. -/
theorem judgeGroup_eq_some {n : Half} {g : Group} : judgeGroup n = some g ↔ n.toNat = g.val := by
  unfold judgeGroup
  split
  · rw [Option.some_inj]
    exact Fin.ext_iff
  · have := g.isLt
    exact iff_of_false nofun (by omega)

theorem judgeGroup_eq_none {n : Half} : judgeGroup n = none ↔ 1023 < n.toNat := by
  unfold judgeGroup
  split
  · exact iff_of_false nofun (by omega)
  · exact iff_of_true rfl (by omega)

/-- Section 11.5: a code of two values is 0 or 1. -/
theorem judgeFlag_of_le {b : Byte} (h : b.toNat ≤ 1) : judgeFlag b = some (decide (b = 1#8)) := by
  obtain rfl | rfl : b = 0#8 ∨ b = 1#8 := by bv_omega
  · rfl
  · rfl

theorem judgeFlag_of_gt {b : Byte} (h : 1 < b.toNat) : judgeFlag b = none := by
  unfold judgeFlag
  rw [if_neg (by bv_omega), if_neg (by bv_omega)]

/-! ### The members (R68, checks 3 to 5) -/

/-- R68: the first member that fails a check, and the members before it that pass. -/
theorem findIdx?_some_cases {α : Type} {p : α → Bool} {l : List α} {k : Nat} (h : l.findIdx? p = some k) :
    (∃ m, l[k]? = some m ∧ p m = true) ∧ ∀ j m, j < k → l[j]? = some m → p m = false := by
  obtain ⟨hk, hp, hbefore⟩ := List.findIdx?_eq_some_iff_getElem.1 h
  refine ⟨⟨l[k], List.getElem?_eq_getElem hk, hp⟩, fun j m hj hm => ?_⟩
  obtain ⟨_, rfl⟩ := List.getElem?_eq_some_iff.1 hm
  simpa using hbefore j hj

/-- R68, check 3. -/
theorem uplinkCheck_eq_none {ms : List (Byte × Byte)} :
    ms.findIdx? (fun m => 15 < m.1.toNat) = none ↔ ∀ m ∈ ms, m.1.toNat ≤ 15 := by
  simp only [List.findIdx?_eq_none_iff, decide_eq_false_iff_not, not_lt]

/-- R68, check 4. -/
theorem weightCheck_eq_none {ms : List (Byte × Byte)} :
    ms.findIdx? (fun m => m.2.toNat = 0 || 15 < m.2.toNat) = none ↔ ∀ m ∈ ms, 1 ≤ m.2.toNat ∧ m.2.toNat ≤ 15 := by
  simp only [List.findIdx?_eq_none_iff, Bool.or_eq_false_iff, decide_eq_false_iff_not, not_lt, Nat.one_le_iff_ne_zero,
    ne_eq]

/-- The later slots are those whose uplink an earlier slot names. -/
theorem mem_laterSlots {us : List Nat} {k : Nat} :
    k ∈ laterSlots us ↔ ∃ j u, j < k ∧ us[j]? = some u ∧ us[k]? = some u := by
  unfold laterSlots
  rw [List.mem_filter, List.mem_range, List.contains_iff_mem, List.mem_take_iff_getElem]
  constructor
  · rintro ⟨hk, j, hj, e⟩
    rw [lt_min_iff] at hj
    obtain ⟨hjk, hjl⟩ := hj
    refine ⟨j, us[j], hjk, List.getElem?_eq_getElem hjl, ?_⟩
    rw [e, List.getD_eq_getElem?_getD, List.getElem?_eq_getElem hk, Option.getD_some]
  · rintro ⟨j, u, hjk, hj, hk⟩
    obtain ⟨hkl, rfl⟩ := List.getElem?_eq_some_iff.1 hk
    obtain ⟨hjl, e⟩ := List.getElem?_eq_some_iff.1 hj
    exact ⟨hkl, j, lt_min hjk hjl, by rw [e, List.getD_eq_getElem?_getD, hk, Option.getD_some]⟩

/-- No slot repeats an earlier one exactly if no uplink stands twice. -/
theorem laterSlots_eq_nil {us : List Nat} : laterSlots us = [] ↔ us.Nodup := by
  rw [List.eq_nil_iff_forall_not_mem, List.nodup_iff_getElem?_ne_getElem?]
  simp only [mem_laterSlots, not_exists, not_and]
  constructor
  · intro h i j hij hj e
    exact h j i us[j] hij (e.trans (List.getElem?_eq_getElem hj)) (List.getElem?_eq_getElem hj)
  · intro h k j u hjk hj hk
    obtain ⟨hkl, -⟩ := List.getElem?_eq_some_iff.1 hk
    exact h j k hjk hkl (hj.trans hk.symm)

/-- R68, check 5, fails nowhere exactly if no uplink stands twice. -/
theorem duplicateSlot_eq_none {us : List Nat} : duplicateSlot us = none ↔ us.Nodup := by
  rw [← laterSlots_eq_nil]
  unfold duplicateSlot
  split
  · rename_i h
    exact iff_of_true rfl h
  · rename_i h
    exact iff_of_false nofun (by rw [h]; nofun)
  · rename_i h
    exact iff_of_false nofun (by rw [h]; nofun)

/-- Whichever slot a DUPLICATE reply names, an earlier slot names its uplink (log entry 11). -/
theorem duplicateSlot_mem {us : List Nat} {k : Nat} (h : duplicateSlot us = some k) : k ∈ laterSlots us := by
  unfold duplicateSlot at h
  split at h
  · cases h
  · rename_i hlater
    cases h
    rw [hlater]
    exact List.mem_singleton_self k
  · rename_i j i rest hlater
    cases h
    have hlt : Config.duplicatePick us % (rest.length + 2) < (j :: i :: rest).length := Nat.mod_lt _ (by simp)
    rw [hlater, List.getD_eq_getElem?_getD, List.getElem?_eq_getElem hlt, Option.getD_some]
    exact List.getElem_mem hlt

/-- R68: that no uplink field stands twice, by its number. -/
theorem nodup_toNat_iff {ms : List (Byte × Byte)} :
    (ms.map fun m => m.1.toNat).Nodup ↔ (ms.map (·.1)).Nodup := by
  rw [← List.nodup_map_iff (f := BitVec.toNat) (fun _ _ => BitVec.eq_of_toNat_eq), List.map_map]
  rfl

/-! ### The ten checks (R68) -/

/-- A member as the plan record holds it. -/
def memberOf (m : Byte × Byte) : Member := { uplink := Fin.ofNat 16 m.1.toNat, weight := m.2.toNat }

/-- R68, checks 1 to 5: the group and the members pass. -/
def PlanFields.MembersPass (f : PlanFields) : Prop :=
  f.members.length ≤ 8 ∧ (∀ m ∈ f.members, m.1.toNat ≤ 15) ∧ (∀ m ∈ f.members, 1 ≤ m.2.toNat ∧ m.2.toNat ≤ 15)
    ∧ (f.members.map fun m => m.1.toNat).Nodup

/-- R68: what a record that passes every check is. -/
theorem judgePlan_good {f : PlanFields} {g : Group} {p : Plan} (h : judgePlan f = .good (g, p)) :
    PlanFields.MembersPass f ∧ p.members = f.members.map memberOf ∧ p.fallback ≠ some g := by
  unfold judgePlan at h
  split at h
  · cases h
  split at h
  · cases h
  rename_i hcount
  split at h
  · cases h
  rename_i huplink
  split at h
  · cases h
  rename_i hweight
  split at h
  · cases h
  rename_i hdup
  have hpass : PlanFields.MembersPass f :=
    ⟨not_lt.1 hcount, uplinkCheck_eq_none.1 huplink, weightCheck_eq_none.1 hweight, duplicateSlot_eq_none.1 hdup⟩
  split at h
  · simp only at h
    split at h
    · cases h
      exact ⟨hpass, rfl, nofun⟩
    · split at h
      · cases h
      · split at h
        · cases h
        · rename_i hne
          cases h
          exact ⟨hpass, rfl, fun e => hne (Option.some.inj e)⟩
  · cases h

theorem judgePlan_group {f : PlanFields} (h : 1023 < f.group.toNat) :
    judgePlan f = .bad { code := .group, slot := none } := by
  simp only [judgePlan, judgeGroup_eq_none.2 h]

section Checks
variable {f : PlanFields} {g : Group} (hg : f.group.toNat = g.val)
include hg

theorem judgePlan_count (h : 8 < f.members.length) : judgePlan f = .bad { code := .count, slot := none } := by
  simp only [judgePlan, judgeGroup_eq_some.2 hg, if_pos h]

variable (hc : f.members.length ≤ 8)
include hc

/-- R68, check 3, with the slot of the first member that fails it. -/
theorem judgePlan_uplink (h : ¬ ∀ m ∈ f.members, m.1.toNat ≤ 15) :
    ∃ k, judgePlan f = .bad { code := .uplink, slot := some k }
      ∧ (∃ m, f.members[k]? = some m ∧ 15 < m.1.toNat)
      ∧ ∀ j m, j < k → f.members[j]? = some m → m.1.toNat ≤ 15 := by
  obtain ⟨k, hk⟩ := Option.ne_none_iff_exists'.1 (mt uplinkCheck_eq_none.1 h)
  obtain ⟨⟨m, hm, hfault⟩, hbefore⟩ := findIdx?_some_cases hk
  refine ⟨k, ?_, ⟨m, hm, of_decide_eq_true hfault⟩, fun j m hj hm => ?_⟩
  · simp only [judgePlan, judgeGroup_eq_some.2 hg, if_neg (not_lt.2 hc), hk]
  · exact not_lt.1 (of_decide_eq_false (hbefore j m hj hm))

variable (hu : ∀ m ∈ f.members, m.1.toNat ≤ 15)
include hu

/-- R68, check 4, with the slot of the first member that fails it. -/
theorem judgePlan_weight (h : ¬ ∀ m ∈ f.members, 1 ≤ m.2.toNat ∧ m.2.toNat ≤ 15) :
    ∃ k, judgePlan f = .bad { code := .weight, slot := some k }
      ∧ (∃ m, f.members[k]? = some m ∧ (m.2.toNat = 0 ∨ 15 < m.2.toNat))
      ∧ ∀ j m, j < k → f.members[j]? = some m → 1 ≤ m.2.toNat ∧ m.2.toNat ≤ 15 := by
  obtain ⟨k, hk⟩ := Option.ne_none_iff_exists'.1 (mt weightCheck_eq_none.1 h)
  obtain ⟨⟨m, hm, hfault⟩, hbefore⟩ := findIdx?_some_cases hk
  refine ⟨k, ?_, ⟨m, hm, ?_⟩, fun j m hj hm => ?_⟩
  · simp only [judgePlan, judgeGroup_eq_some.2 hg, if_neg (not_lt.2 hc), uplinkCheck_eq_none.2 hu, hk]
  · simpa only [Bool.or_eq_true, decide_eq_true_eq] using hfault
  · have hpass := hbefore j m hj hm
    simp only [Bool.or_eq_false_iff, decide_eq_false_iff_not] at hpass
    omega

variable (hw : ∀ m ∈ f.members, 1 ≤ m.2.toNat ∧ m.2.toNat ≤ 15)
include hw

/-- R68, check 5, with a slot whose uplink an earlier slot names (log entry 11). -/
theorem judgePlan_duplicate (h : ¬ (f.members.map (·.1)).Nodup) :
    ∃ k, judgePlan f = .bad { code := .duplicate, slot := some k }
      ∧ ∃ j m n, j < k ∧ f.members[j]? = some m ∧ f.members[k]? = some n ∧ m.1 = n.1 := by
  obtain ⟨k, hk⟩ := Option.ne_none_iff_exists'.1 (mt duplicateSlot_eq_none.1 (mt nodup_toNat_iff.1 h))
  obtain ⟨j, u, hjk, hj, hku⟩ := mem_laterSlots.1 (duplicateSlot_mem hk)
  rw [List.getElem?_map, Option.map_eq_some_iff] at hj hku
  obtain ⟨m, hm, rfl⟩ := hj
  obtain ⟨n, hn, e⟩ := hku
  refine ⟨k, ?_, j, m, n, hjk, hm, hn, BitVec.eq_of_toNat_eq e.symm⟩
  simp only [judgePlan, judgeGroup_eq_some.2 hg, if_neg (not_lt.2 hc), uplinkCheck_eq_none.2 hu,
    weightCheck_eq_none.2 hw, hk]

variable (hd : (f.members.map (·.1)).Nodup)
include hd

/-- R68, checks 6 to 8: a fold, revert mode or empty action code above 1. -/
theorem judgePlan_mode (h : judgeFlag f.fold = none ∨ judgeFlag f.revert = none ∨ judgeFlag f.emptyAction = none) :
    judgePlan f = .bad { code := .mode, slot := none } := by
  simp only [judgePlan, judgeGroup_eq_some.2 hg, if_neg (not_lt.2 hc), uplinkCheck_eq_none.2 hu,
    weightCheck_eq_none.2 hw, duplicateSlot_eq_none.2 (nodup_toNat_iff.2 hd), judgeFold, judgeRevert, judgeAction]
  obtain h | h | h := h <;> rw [h]
  · rfl
  · cases judgeFlag f.fold <;> rfl
  · cases judgeFlag f.fold <;> cases judgeFlag f.revert <;> rfl

variable (hf : f.fold.toNat ≤ 1) (hr : f.revert.toNat ≤ 1) (ha : f.emptyAction.toNat ≤ 1)
include hf hr ha

/-- R68, checks 9 and 10: a fallback above 1,023, or the group itself. -/
theorem judgePlan_fallback (hpresent : f.fallback ≠ 0xFFFF#16)
    (h : 1023 < f.fallback.toNat ∨ f.fallback = f.group) : judgePlan f = .bad { code := .fallback, slot := none } := by
  simp only [judgePlan, judgeGroup_eq_some.2 hg, if_neg (not_lt.2 hc), uplinkCheck_eq_none.2 hu,
    weightCheck_eq_none.2 hw, duplicateSlot_eq_none.2 (nodup_toNat_iff.2 hd), judgeFold, judgeRevert, judgeAction,
    judgeFlag_of_le hf, judgeFlag_of_le hr, judgeFlag_of_le ha, Option.map_some, if_neg hpresent]
  obtain h | h := h
  · rw [judgeGroup_eq_none.2 h]
  · rw [h, judgeGroup_eq_some.2 hg]
    exact if_pos rfl

/-- R68: the record that passes every check. -/
theorem judgePlan_passes {fallback : Option Group} (h : f.fallback = 0xFFFF#16 ∧ fallback = none
      ∨ f.fallback ≠ 0xFFFF#16 ∧ ∃ b, judgeGroup f.fallback = some b ∧ b ≠ g ∧ fallback = some b) :
    judgePlan f = .good (g, {
      members := f.members.map memberOf
      fold := if f.fold = 1#8 then .fold else .direct
      revert := if f.revert = 1#8 then .nonRevertive else .revertive
      fallback
      emptyAction := if f.emptyAction = 1#8 then .discard else .punt }) := by
  simp only [judgePlan, judgeGroup_eq_some.2 hg, if_neg (not_lt.2 hc), uplinkCheck_eq_none.2 hu,
    weightCheck_eq_none.2 hw, duplicateSlot_eq_none.2 (nodup_toNat_iff.2 hd), judgeFold, judgeRevert, judgeAction,
    judgeFlag_of_le hf, judgeFlag_of_le hr, judgeFlag_of_le ha, Option.map_some, decide_eq_true_eq]
  obtain ⟨e, rfl⟩ | ⟨e, b, hb, hne, rfl⟩ := h
  · rw [if_pos e]
    rfl
  · rw [if_neg e, hb]
    simp only [if_neg hne]
    rfl

end Checks

end Sys2Proof.Machine
end

section
/-! SUPPORT. Every step keeps the plan records of both banks canonical and well formed (R64, R66; log entry 17). -/

namespace Sys2Proof.Machine

/-- R64: both banks canonical and every record in them well formed. -/
def PlanRecordsSound (s : State) : Prop :=
  (∀ b, GroupMap.canonical Plan.default (s.plans.bank b)) ∧ PlansWellFormed s

/-- The records are read off the two banks alone. -/
theorem PlanRecordsSound.of_banks {s t : State} (h : PlanRecordsSound s)
    (hb : ∀ b, ∃ c, t.plans.bank b = s.plans.bank c) : PlanRecordsSound t := by
  obtain ⟨hcanonical, hwf⟩ := h
  refine ⟨fun b => ?_, fun b g => ?_⟩ <;> obtain ⟨c, e⟩ := hb b
  · rw [e]
    exact hcanonical c
  · unfold State.planIn
    rw [e]
    exact hwf c g

theorem PlanRecordsSound.of_plans {s t : State} (h : PlanRecordsSound s) (hp : t.plans = s.plans) :
    PlanRecordsSound t := h.of_banks fun b => ⟨b, by rw [hp]⟩

theorem PlanRecordsSound.of_quiet {s t : State} (hq : s.Quiet t) (h : PlanRecordsSound s) : PlanRecordsSound t :=
  h.of_plans hq.1.1

/-! ### Writing the shadow bank -/

/-- A bank read after a bank is written whole. -/
theorem PlanStore.bank_setBank (p : PlanStore) (b c : Bank) (m : GroupMap Plan) :
    (p.setBank b m).bank c = if c = b then m else p.bank c := by
  cases b <;> cases c <;> rfl

theorem Plan.default_wellFormed (g : Group) : Plan.default.WellFormed g := ⟨by decide, by decide, nofun, nofun⟩

/-- R67, R70: a well-formed record written. -/
theorem PlanRecordsSound.writeShadow {s : State} {g : Group} {p : Plan} (hp : p.WellFormed g)
    (h : PlanRecordsSound s) : PlanRecordsSound (s.writeShadow g p) := by
  obtain ⟨hcanonical, hwf⟩ := h
  refine ⟨fun b => ?_, fun b k => ?_⟩
  · show GroupMap.canonical _ ((s.plans.setBank _ _).bank b)
    rw [PlanStore.bank_setBank]
    split
    · exact GroupMap.put_canonical (hcanonical _)
    · exact hcanonical b
  · show (GroupMap.get _ ((s.plans.setBank _ _).bank b) k).WellFormed k
    rw [PlanStore.bank_setBank]
    split
    · rw [GroupMap.get_put]
      split
      · rename_i e
        exact e ▸ hp
      · exact hwf _ k
    · exact hwf b k

/-- R71: the active bank copied. -/
theorem PlanRecordsSound.copied {s : State} (h : PlanRecordsSound s) (b c : Bank) :
    PlanRecordsSound { s with plans := s.plans.setBank b (s.plans.bank c) } := by
  refine h.of_banks fun d => ?_
  show ∃ e, (s.plans.setBank b (s.plans.bank c)).bank d = _
  rw [PlanStore.bank_setBank]
  split
  · exact ⟨c, rfl⟩
  · exact ⟨d, rfl⟩

/-- R68: the record that passes the checks is well formed (R64). -/
theorem judgePlan_wellFormed {f : PlanFields} {g : Group} {p : Plan} (h : judgePlan f = .good (g, p)) :
    p.WellFormed g := by
  obtain ⟨⟨hcount, huplink, hweight, hdup⟩, hmembers, hfallback⟩ := judgePlan_good h
  refine ⟨?_, ?_, fun m hm => ?_, hfallback⟩
  · rw [hmembers, List.length_map]
    exact hcount
  · have hval : (p.members.map Member.uplink).map Fin.val = f.members.map fun m => m.1.toNat := by
      rw [hmembers, List.map_map, List.map_map]
      exact List.map_congr_left fun m hm => Nat.mod_eq_of_lt (by have := huplink m hm; omega)
    exact List.Nodup.of_map Fin.val (hval ▸ hdup)
  · rw [hmembers] at hm
    obtain ⟨x, hx, rfl⟩ := List.mem_map.1 hm
    exact hweight x hx

/-! ### The rows that leave the plans and the buckets -/

/-- The plan store and the buckets are those of another state. -/
def State.SameStores (s t : State) : Prop := t.plans = s.plans ∧ t.buckets = s.buckets

theorem State.SameStores.refl (s : State) : s.SameStores s := ⟨rfl, rfl⟩

theorem State.SameStores.trans {s t r : State} (h1 : s.SameStores t) (h2 : t.SameStores r) : s.SameStores r := by
  obtain ⟨hp1, hb1⟩ := h1
  obtain ⟨hp2, hb2⟩ := h2
  exact ⟨hp2.trans hp1, hb2.trans hb1⟩

theorem State.Quiet.sameStores {s t : State} (h : s.Quiet t) : s.SameStores t := by
  obtain ⟨⟨hp, hb, -⟩, -⟩ := h
  exact ⟨hp, hb⟩

theorem PlanRecordsSound.of_sameStores {s t : State} (h : PlanRecordsSound s) (hs : s.SameStores t) :
    PlanRecordsSound t := h.of_plans hs.1

theorem State.evaluateUsability_sameStores (touched : List Conduit) (events : List Event) (m s : State) :
    m.SameStores (m.evaluateUsability touched events s) :=
  ⟨by rw [State.evaluateUsability_frame], by rw [State.evaluateUsability_frame]⟩

/-- R53: a change of one uplink and its evaluation. -/
theorem State.settleHealth_sameStores (u : Uplink) (y : UplinkState × List Event) (s before : State) :
    s.SameStores (s.settleHealth u y before) := State.evaluateUsability_sameStores _ _ (s.setUplink u y.1) _

theorem State.handOver_sameStores (u : Uplink) (x : UplinkState) (s : State) : s.SameStores (s.handOver u x) := by
  obtain ⟨_, _, _, ⟨⟨hplans, hbuckets, -⟩, -⟩, -⟩ := State.handOver_spec u x s
  exact ⟨hplans, hbuckets⟩

theorem losEdge_sameStores (u : Uplink) (level : Bool) (s : State) : s.SameStores (losEdge u level s) := by
  by_cases hpin : s.resetHeld = true ∨ (s.uplink u).rawLos = level
  · rw [losEdge_pin hpin]
    exact .refl s
  · rw [not_or, Bool.not_eq_true] at hpin
    obtain ⟨hr, hl⟩ := hpin
    cases hm : (s.uplink u).monitored with
    | false => rw [losEdge_disabled hr hl hm]; exact .refl s
    | true => rw [losEdge_monitored hr hl hm]; exact State.handOver_sameStores _ _ s

theorem lossQualifyExpiry_sameStores (u : Uplink) (s : State) : s.SameStores (lossQualifyExpiry u s) := by
  cases ht : (s.uplink u).lossTimer with
  | none => rw [lossQualifyExpiry_stopped ht]; exact .refl s
  | some e => rw [lossQualifyExpiry_running ht]; exact State.handOver_sameStores _ _ (s.advanceTo e)

theorem lightQualifyExpiry_sameStores (u : Uplink) (s : State) : s.SameStores (lightQualifyExpiry u s) := by
  cases ht : (s.uplink u).lightTimer with
  | none => rw [lightQualifyExpiry_stopped ht]; exact .refl s
  | some e => rw [lightQualifyExpiry_running ht]; exact State.handOver_sameStores _ _ (s.advanceTo e)

theorem holdOffExpiry_sameStores (u : Uplink) (s : State) : s.SameStores (holdOffExpiry u s) := by
  unfold holdOffExpiry
  split
  · rename_i e _
    exact State.settleHealth_sameStores _ _ (s.advanceTo e) _
  · exact .refl s

theorem waitToRestoreExpiry_sameStores (u : Uplink) (s : State) : s.SameStores (waitToRestoreExpiry u s) := by
  unfold waitToRestoreExpiry
  split
  · rename_i e _
    exact State.settleHealth_sameStores _ _ (s.advanceTo e) _
  · exact .refl s

theorem continuityDeadlineExpiry_sameStores (u : Uplink) (s : State) :
    s.SameStores (continuityDeadlineExpiry u s) := by
  cases hd : (s.uplink u).deadline with
  | stopped => rw [continuityDeadlineExpiry_stopped (.inl hd)]; exact .refl s
  | suspended => rw [continuityDeadlineExpiry_stopped (.inr hd)]; exact .refl s
  | running e => rw [continuityDeadlineExpiry_running hd]; exact State.handOver_sameStores _ _ (s.advanceTo e)

theorem recordArrival_sameStores (r : Record) (s : State) : s.SameStores (recordArrival r s) := by
  unfold recordArrival
  split
  · rename_i k _
    refine (State.acceptRecord_quiet k s).sameStores.trans ?_
    cases k with
    | sync => exact .refl _
    | lookupReq => exact (State.laneArrival_quiet _ _).sameStores
    | probeIn => exact State.handOver_sameStores _ _ _
  · exact s.countHeaderError_quiet.sameStores

/-! ### The commands that leave them -/

theorem doSetUplink_sameStores (f : UplinkFields) (s : State) : s.SameStores (doSetUplink f s).1 := by
  cases h : judgeSettings f with
  | bad e => rw [doSetUplink_bad h]; exact .refl s
  | good v =>
    rw [doSetUplink_good h]
    obtain ⟨⟨⟨hplans, hbuckets, -⟩, -⟩, -⟩ := State.afterSettings_frame v.1 v.2 s
    exact ⟨hplans, hbuckets⟩

theorem State.setAdmin_sameStores (u : Uplink) (m : AdminMode) (s : State) : s.SameStores (s.setAdmin u m) := by
  unfold State.setAdmin
  simp only
  split
  · exact .refl s
  · split
    · exact State.settleHealth_sameStores _ _ s s
    · split
      · unfold State.enableUplink
        simp only
        split
        · exact (State.settleHealth_sameStores _ _ s s).trans (State.emitAtStart_quiet u _).sameStores
        · exact State.settleHealth_sameStores _ _ s s
      · exact State.settleHealth_sameStores _ _ s s

theorem doSetAdmin_sameStores (b mode : Byte) (s : State) : s.SameStores (doSetAdmin b mode s).1 := by
  unfold doSetAdmin
  split
  · exact .refl s
  · split
    · exact .refl s
    · exact State.setAdmin_sameStores _ _ s

theorem doForceRestore_sameStores (b : Byte) (s : State) : s.SameStores (doForceRestore b s).1 := by
  unfold doForceRestore
  split
  · exact .refl s
  · split
    · exact State.settleHealth_sameStores _ _ s s
    · exact .refl s

theorem doClearLatch_sameStores (b : Byte) (s : State) : s.SameStores (doClearLatch b s).1 := by
  unfold doClearLatch
  split <;> exact .refl s

theorem doSetConduit_sameStores (b trip : Byte) (s : State) : s.SameStores (doSetConduit b trip s).1 := by
  unfold doSetConduit
  split
  · exact .refl s
  · rename_i c _
    exact State.evaluateUsability_sameStores _ _ (s.setConduit c _) _

theorem State.deliver_sameStores (marked : Group → Bool) (f : DirtyFlags) (s : State) :
    s.SameStores (s.deliver marked f) := ⟨State.deliver_plans _ _ _, State.deliver_buckets _ _ _⟩

theorem doRebalance_sameStores (t : RebalanceTarget) (s : State) : s.SameStores (doRebalance t s).1 := by
  unfold doRebalance
  repeat' split
  · exact .refl s
  · exact State.deliver_sameStores _ _ s
  · exact State.deliver_sameStores _ _ s

/-! ### The rows of the groups -/

/-- R129: a lookup writes no plan. -/
theorem State.noteUnplanned_plans (q : Request) (s : State) : (s.noteUnplanned q).plans = s.plans := by
  unfold State.noteUnplanned
  repeat' split
  all_goals rfl

theorem State.serve_plans (l : Lane) (q : Request) (rest : List Request) (s : State) :
    (s.serve l q rest).plans = s.plans := by
  obtain ⟨hplans, -⟩ := (State.evaluateResume_quiet l { s.setLane l { s.lane l with queue := rest } with
    lookup := { (s.setLane l { s.lane l with queue := rest }).lookup with lastServed := l } }).sameStores
  exact (State.noteUnplanned_plans q _).trans hplans

theorem serviceBegin_plans (s : State) : (serviceBegin s).plans = s.plans := by
  unfold serviceBegin
  repeat' split
  · rfl
  · rfl
  · rfl
  · exact State.serve_plans _ _ _ s

/-- R105, R112: a completion exchanges the banks at most. -/
theorem State.completePass_bank (p : PassRecord) (s : State) (b : Bank) :
    (s.completePass p).plans.bank b = s.plans.bank b := by
  obtain ⟨plans, _, _, e, hplans⟩ := s.completePass_eq p
  rw [e]
  obtain ⟨rfl, -⟩ | ⟨rfl, -⟩ := hplans <;> cases b <;> rfl

theorem passComplete_planRecordsSound {s : State} (h : PlanRecordsSound s) : PlanRecordsSound (passComplete s) := by
  unfold passComplete
  split
  · rename_i p _
    exact .of_quiet (State.releaseReadGroup_quiet _ _) (h.of_banks fun b => ⟨b, s.completePass_bank p b⟩)
  · exact h

theorem doWritePlan_planRecordsSound (f : PlanFields) {s : State} (h : PlanRecordsSound s) :
    PlanRecordsSound (doWritePlan f s).1 := by
  unfold doWritePlan
  split
  · exact h
  · split
    · exact h
    · rename_i hgood
      exact h.writeShadow (judgePlan_wellFormed hgood)

theorem doClearPlan_planRecordsSound (n : Half) {s : State} (h : PlanRecordsSound s) :
    PlanRecordsSound (doClearPlan n s).1 := by
  unfold doClearPlan
  split
  · exact h
  · split
    · exact h
    · exact h.writeShadow (Plan.default_wellFormed _)

theorem doCopyActive_planRecordsSound {s : State} (h : PlanRecordsSound s) :
    PlanRecordsSound (doCopyActive s).1 := by
  unfold doCopyActive
  split
  · exact h
  · exact h.copied _ _

theorem doSwap_planRecordsSound {s : State} (h : PlanRecordsSound s) : PlanRecordsSound (doSwap s).1 := by
  unfold doSwap
  split
  · exact h
  · refine h.of_banks fun b => ⟨b, ?_⟩
    simp only [State.deliver_plans]
    cases b <;> rfl

/-- R165: a command taken. -/
theorem takeCommand_planRecordsSound (tag : Byte) (c : Command) {s : State} (h : PlanRecordsSound s) :
    PlanRecordsSound (takeCommand tag c s) := by
  cases c with
  | identify => exact h
  | getStatus => exact h
  | setTime t => exact h
  | setUplink f => exact h.of_sameStores (doSetUplink_sameStores f s)
  | getUplink u => exact h.of_sameStores (doGetUplink_quiet u s).sameStores
  | setAdmin u m => exact h.of_sameStores (doSetAdmin_sameStores u m s)
  | forceRestore u => exact h.of_sameStores (doForceRestore_sameStores u s)
  | clearLatch u => exact h.of_sameStores (doClearLatch_sameStores u s)
  | setConduit d t => exact h.of_sameStores (doSetConduit_sameStores d t s)
  | writePlan f => exact doWritePlan_planRecordsSound f h
  | clearPlan g => exact doClearPlan_planRecordsSound g h
  | copyActive => exact doCopyActive_planRecordsSound h
  | readPlan g b => exact h.of_sameStores (doReadPlan_quiet g b s).sameStores
  | swap => exact doSwap_planRecordsSound h
  | readGroup g => exact h.of_sameStores (takeReadGroup_quiet tag g s).sameStores
  | rebalance t => exact h.of_sameStores (doRebalance_sameStores t s)
  | setLane l e p r => exact h.of_sameStores (doSetLane_quiet l e p r s).sameStores
  | setFwdlink t => exact h
  | setAlert t l u => exact h.of_sameStores (doSetAlert_quiet t l u s).sameStores
  | fetchEvents n => exact h
  | reset => exact h

theorem State.toReset_planRecordsSound (held : Bool) (s : State) : PlanRecordsSound (s.toReset held) := by
  refine ⟨fun b => ?_, fun b g => ?_⟩
  · cases b <;> exact GroupMap.canonical_nil _
  · cases b <;> exact Plan.default_wellFormed g

/-- R64, R66: the records by every row. -/
theorem planRecordsSound_keptByRows : KeptByRows PlanRecordsSound where
  control _ _ h := h.of_plans rfl
  command tag c _ h := takeCommand_planRecordsSound tag c h
  reset held s _ := State.toReset_planRecordsSound held s
  pending _ _ h := h.of_plans rfl
  tick h := by
    unfold State.tick
    split <;> exact h
  release {s} h := h.of_sameStores s.releaseReset_quiet.sameStores
  losEdge u level s h := h.of_sameStores (losEdge_sameStores u level s)
  lossQualifyExpiry u s h := h.of_sameStores (lossQualifyExpiry_sameStores u s)
  lightQualifyExpiry u s h := h.of_sameStores (lightQualifyExpiry_sameStores u s)
  holdOffExpiry u s h := h.of_sameStores (holdOffExpiry_sameStores u s)
  waitToRestoreExpiry u s h := h.of_sameStores (waitToRestoreExpiry_sameStores u s)
  probeEmission u s h := h.of_sameStores (probeEmission_quiet u s).sameStores
  continuityDeadlineExpiry u s h := h.of_sameStores (continuityDeadlineExpiry_sameStores u s)
  recordArrival r s h := h.of_sameStores (recordArrival_sameStores r s)
  countHeaderError h := h.of_plans rfl
  silenceExpiry {s} h := h.of_sameStores (silenceExpiry_quiet s).sameStores
  serviceBegin {s} h := h.of_plans (serviceBegin_plans s)
  recordTime {s} h := h.of_sameStores (recordTime_quiet s).sameStores
  passBegin {s} h := h.of_plans (by rw [passBegin_frame])
  passComplete h := passComplete_planRecordsSound h
  lingerExpiry {s} h := h.of_sameStores (lingerExpiry_quiet s).sameStores

end Sys2Proof.Machine
end

section
/-! The plans, the stores, the swap and the episode are sound after every step (O57). -/

namespace Sys2Proof.Machine

/-! ### The swap (R66, R74, R112) -/

/-- What the swap's invariant reads: the active bank, the swap flag, the buckets, the dirty set and the pass. -/
theorem SwapSound.congr {s t : State} (h : SwapSound s) (ha : t.plans.active = s.plans.active)
    (hf : t.plans.swapInFlight = s.plans.swapInFlight) (hb : t.buckets = s.buckets)
    (hd : t.sweep.dirty = s.sweep.dirty) (hp : t.sweep.pass = s.sweep.pass) : SwapSound t := by
  unfold SwapSound State.replanQueued State.underReplan State.group at h ⊢
  rw [ha, hf, hb, hd, hp]
  exact h

/-- The part with both banks at the default record. The swap's invariant does not read them, and with no member in any
plan every group is settled. -/
def State.bare (s : State) : State := { s with plans := { s.plans with bankA := [], bankB := [] } }

theorem State.bare_planIn (s : State) (b : Bank) (g : Group) : s.bare.planIn b g = Plan.default := by cases b <;> rfl

theorem SwapSound.bare {s : State} (h : SwapSound s) : SettlingSound s.bare := by
  refine ⟨fun b g => ?_, h.congr rfl rfl rfl rfl rfl, fun g hplanned => ?_, fun p _ u hmarks => ?_⟩
  · rw [State.bare_planIn]
    decide
  · unfold State.servedPlan at hplanned
    rw [State.bare_planIn] at hplanned
    exact absurd hplanned (by decide)
  · rw [State.marksFor_iff] at hmarks
    unfold State.servedPlan at hmarks
    simp [State.bare_planIn, Plan.names, Plan.default] at hmarks

/-- R75: a swap begun. -/
theorem SwapSound.swapBegun {s : State} (idle : s.plans.swapInFlight = false) (h : SwapSound s) :
    SwapSound (State.deliver (fun _ => true) { replan := true, rebalance := false }
      { s with plans := { s.plans with swapInFlight := true } }) := by
  obtain ⟨-, hswap, -⟩ := State.swapBegun_settlingSound (s := s.bare) idle h.bare
  refine hswap.congr ?_ ?_ ?_ ?_ ?_
  · rw [State.deliver_plans, State.deliver_plans]
    rfl
  · rw [State.deliver_plans, State.deliver_plans]
  · rw [State.deliver_buckets, State.deliver_buckets]
    rfl
  · rw [State.deliver_dirty, State.deliver_dirty]
    rfl
  · rw [State.deliver_pass, State.deliver_pass]
    rfl

/-- R100: a pass begun reads no plan record. -/
theorem State.passBegin_bare (s : State) : passBegin s.bare = (passBegin s).bare := by
  unfold passBegin State.bare
  cases s.sweep.pass with
  | some p => rfl
  | none => cases s.sweep.choose <;> rfl

theorem SwapSound.passBegin {s : State} (h : SwapSound s) : SwapSound (passBegin s) := by
  obtain ⟨-, hswap, -⟩ := passBegin_settlingSound h.bare
  rw [State.passBegin_bare] at hswap
  exact hswap.congr rfl rfl rfl rfl rfl

/-! ### The episode (R114) -/

theorem EpisodeSound.of_sweep {s t : State} (h : EpisodeSound s) (hs : t.sweep = s.sweep) : EpisodeSound t := by
  unfold EpisodeSound at h ⊢
  rw [hs]
  exact h

/-- A store lists something exactly if it lists something for some group. -/
theorem GroupMap.ne_nil_iff {α : Type} {m : GroupMap α} : m ≠ [] ↔ ∃ g, GroupMap.find m g ≠ none := by
  constructor
  · intro h
    obtain ⟨e, he⟩ := List.exists_mem_of_ne_nil m h
    exact ⟨e.1, by simpa [GroupMap.find] using ⟨e.2, he⟩⟩
  · rintro ⟨g, h⟩ rfl
    exact h rfl

/-- R97: after a delivery something is marked if something was, or if a mark made a new entry. -/
theorem State.deliver_dirty_ne_nil (s : State) (marked : Group → Bool) (f : DirtyFlags) :
    (s.deliver marked f).sweep.dirty ≠ [] ↔ s.sweep.dirty ≠ [] ∨ s.makesNew marked = true := by
  simp only [GroupMap.ne_nil_iff, State.find_deliver, State.makesNew_iff]
  constructor
  · rintro ⟨g, h⟩
    by_cases hold : GroupMap.find s.sweep.dirty g = none
    · cases hm : marked g with
      | true => exact .inr ⟨g, hm, hold⟩
      | false => simp [hm, hold] at h
    · exact .inl ⟨g, hold⟩
  · rintro (⟨g, h⟩ | ⟨g, hm, -⟩)
    · exact ⟨g, by split <;> [nofun; exact h]⟩
    · exact ⟨g, by rw [if_pos hm]; nofun⟩

/-- R114: a delivery opens an episode exactly with its first entry. -/
theorem EpisodeSound.deliver {s : State} (h : EpisodeSound s) (marked : Group → Bool) (f : DirtyFlags) :
    EpisodeSound (s.deliver marked f) := by
  obtain ⟨hopen, hcount⟩ := h
  refine ⟨?_, fun e he => ?_⟩
  · rw [State.deliver_episode_isSome, Bool.or_eq_true, hopen, State.deliver_pass, State.deliver_dirty_ne_nil, or_assoc]
  · rw [State.deliver_episode] at he
    unfold State.episodeAfter at he
    split at he
    · rename_i e' hs
      exact hcount e (hs ▸ he)
    · split at he
      · cases he
        exact Nat.zero_le _
      · cases he

/-- R53, step 4: the marks of an evaluation are a delivery. -/
theorem EpisodeSound.evaluateUsability {s m : State} (h : EpisodeSound s) (hs : m.sweep = s.sweep)
    (touched : List Conduit) (events : List Event) (before : State) :
    EpisodeSound (m.evaluateUsability touched events before) := by
  rw [State.evaluateUsability_eq]
  refine EpisodeSound.of_sweep (s := (State.usabilityFlags touched before m).markChanged
    (usableChanges before (State.usabilityFlags touched before m))) ?_ (State.raiseAll_sweep _ _)
  have hflags : EpisodeSound (State.usabilityFlags touched before m) :=
    h.of_sweep (by rw [State.usabilityFlags_frame]; exact hs)
  unfold State.markChanged
  split
  · exact hflags
  · exact hflags.deliver _ _

/-- R99, R100: a pass takes its entry, so an episode is open when it begins, and stays open. -/
theorem EpisodeSound.passBegin {s : State} (h : EpisodeSound s) : EpisodeSound (passBegin s) := by
  obtain e | ⟨g, f, -, hmem, e⟩ := passBegin_cases s
  · rwa [e]
  · obtain ⟨hopen, hcount⟩ := h
    rw [e]
    exact ⟨iff_of_true (hopen.2 (.inr (List.ne_nil_of_mem hmem))) (.inl rfl), hcount⟩

/-- R105, R114: the sweep engine after a completion: the pass counted, and the episode closed if nothing is marked. -/
theorem State.completePass_sweep (s : State) (p : PassRecord) : (s.completePass p).sweep =
    { dirty := s.sweep.dirty, cursor := p.group + 1, pass := none,
      episode := if s.sweep.dirty = [] then none
        else s.sweep.episode.map fun e => { e with passes := saturating 4095 e.passes } } := by
  obtain ⟨m, hm⟩ : ∃ m : State, m = { s.setGroup p.group (s.passResult p) with
    sweep := s.sweep.finish p.group } := ⟨_, rfl⟩
  obtain ⟨es, hraised⟩ : ∃ es, s.completePass p = (m.handReplan p.flags.replan).1.closeEpisode.1.raiseAll es := by
    rw [hm]
    exact ⟨_, rfl⟩
  obtain ⟨plans, hhand, -⟩ := m.handReplan_eq p.flags.replan
  rw [hraised, State.raiseAll_sweep, hhand]
  unfold State.closeEpisode
  rw [hm]
  unfold SweepState.finish
  cases hd : s.sweep.dirty with
  | cons e rest => simp
  | nil => cases he : s.sweep.episode <;> simp

theorem EpisodeSound.completePass {s : State} (h : EpisodeSound s) {p : PassRecord} (hp : s.sweep.pass = some p) :
    EpisodeSound (s.completePass p) := by
  obtain ⟨hopen, -⟩ := h
  have hsome : s.sweep.episode.isSome := hopen.2 (.inl (by rw [hp]; rfl))
  unfold EpisodeSound
  rw [State.completePass_sweep]
  by_cases hd : s.sweep.dirty = []
  · simp [hd]
  · simp only [hd, if_false, Option.isSome_map, hsome, true_iff, Option.mem_map]
    refine ⟨.inr hd, ?_⟩
    rintro _ ⟨e, -, rfl⟩
    exact saturating_le 4095 e.passes

/-! ### Every move -/

/-- What the moves keep together: the swap, the episode and the canonical buckets (log entry 17). -/
def BooksSound (s : State) : Prop :=
  SwapSound s ∧ EpisodeSound s ∧ GroupMap.canonical GroupBuckets.reset s.buckets

theorem State.toReset_booksSound (s : State) (held : Bool) : BooksSound (s.toReset held) := by
  obtain ⟨-, hswap, -⟩ := State.toReset_settlingSound s held
  obtain ⟨⟨-, -, -, hepisode⟩, -⟩ := State.reset_sweepSound
  exact ⟨hswap, hepisode.of_sweep rfl, GroupMap.canonical_nil _⟩

theorem State.Move.booksSound {s t : State} (hmove : s.Move t) (h : BooksSound s) : BooksSound t := by
  obtain ⟨hswap, hepisode, hbuckets⟩ := h
  cases hmove with
  | quiet hq =>
    obtain ⟨⟨-, hb, hs⟩, -⟩ := id hq
    exact ⟨hq.remarked.swapSound hswap, hepisode.of_sweep hs, hb ▸ hbuckets⟩
  | evaluated events he =>
    obtain ⟨-, hb, hs⟩ := he.groups
    refine ⟨(he.remarked events).swapSound hswap, hepisode.evaluateUsability hs _ _ _, ?_⟩
    rw [State.evaluateUsability_frame]
    exact hb ▸ hbuckets
  | rebalanced marked =>
    exact ⟨(State.deliver_remarked s marked).swapSound hswap, hepisode.deliver _ _,
      by rw [State.deliver_buckets]; exact hbuckets⟩
  | shadowWritten idle hbank =>
    exact ⟨(State.shadowWritten_remarked hswap idle hbank).swapSound hswap, hepisode.of_sweep rfl, hbuckets⟩
  | swapBegun idle =>
    refine ⟨hswap.swapBegun idle, EpisodeSound.deliver (hepisode.of_sweep rfl) _ _, ?_⟩
    rw [State.deliver_buckets]
    exact hbuckets
  | passBegun => exact ⟨hswap.passBegin, hepisode.passBegin, by rw [passBegin_frame]; exact hbuckets⟩
  | passCompleted hp =>
    refine ⟨(State.completePass_completed s _).swapSound hp hswap, hepisode.completePass hp, ?_⟩
    obtain ⟨_, _, _, e, -⟩ := s.completePass_eq _
    rw [e]
    exact GroupMap.put_canonical hbuckets
  | hitNoted g =>
    exact ⟨(State.hitNoted_remarked s g).swapSound hswap, hepisode.of_sweep rfl, GroupMap.put_canonical hbuckets⟩
  | reset held => exact State.toReset_booksSound s held

/-! ### Every step -/

/-- The invariant of chapters 4 and 6 is that of the plan records and that of the moves. -/
theorem banksSound_iff {s : State} : BanksSound s ↔ PlanRecordsSound s ∧ BooksSound s := by
  constructor
  · rintro ⟨⟨hA, hB, hbuckets, -⟩, hwf, hswap, hepisode⟩
    refine ⟨⟨fun b => ?_, hwf⟩, hswap, hepisode, hbuckets⟩
    cases b
    · exact hA
    · exact hB
  · rintro ⟨⟨hbanks, hwf⟩, hswap, hepisode, hbuckets⟩
    obtain ⟨hsorted, -⟩ := id hswap
    exact ⟨⟨hbanks .A, hbanks .B, hbuckets, hsorted⟩, hwf, hswap, hepisode⟩

/-- Settles O57: the rows keep the plan records, and the moves that a step is made of keep the swap, the episode and the
buckets. -/
theorem stepsKeepBanksSound : Obligations.StepsKeepBanksSound := by
  intro s t h ht
  obtain ⟨hrecords, hbooks⟩ := banksSound_iff.1 h
  exact banksSound_iff.2
    ⟨planRecordsSound_keptByRows.step hrecords ht, (step_moves ht).keeps State.Move.booksSound hbooks⟩

end Sys2Proof.Machine
end

section
/-! The plan and group commands: BUSY during a swap (O26), the shadow bank written (O24), the checks of WRITE-PLAN in
their order (O25), SWAP (O27), READ-PLAN and READ-GROUP (O28), and GET-STATUS (O22). -/

namespace Sys2Proof.Machine

/-! ### The commands at a free port -/

theorem exec_writePlan {s : State} (hs : s.PortFree) (tag : Byte) (f : PlanFields) :
    exec (.writePlan tag f) s = .next (finish 0x20#8 tag (doWritePlan f s)) := exec_rowOf hs tag (.writePlan f)

theorem exec_clearPlan {s : State} (hs : s.PortFree) (tag : Byte) (n : Half) :
    exec (.clearPlan tag n) s = .next (finish 0x21#8 tag (doClearPlan n s)) := exec_rowOf hs tag (.clearPlan n)

theorem exec_copyActive {s : State} (hs : s.PortFree) (tag : Byte) :
    exec (.copyActive tag) s = .next (finish 0x22#8 tag (doCopyActive s)) := exec_rowOf hs tag .copyActive

theorem exec_readPlan {s : State} (hs : s.PortFree) (tag : Byte) (n : Half) (code : Byte) :
    exec (.readPlan tag n code) s = .next (finish 0x23#8 tag (doReadPlan n code s)) :=
  exec_rowOf hs tag (.readPlan n code)

theorem exec_swap {s : State} (hs : s.PortFree) (tag : Byte) :
    exec (.swap tag) s = .next (finish 0x24#8 tag (doSwap s)) := exec_rowOf hs tag .swap

theorem exec_readGroup {s : State} (hs : s.PortFree) (tag : Byte) (n : Half) :
    exec (.readGroup tag n) s = .next (takeReadGroup tag n s) := exec_rowOf hs tag (.readGroup n)

/-- A command that only replies: its reply joins the list and nothing else changes. -/
theorem replies_only {s : State} {o : Result} {type tag : Byte} {body : ReplyBody}
    (h : o = .next (finish type tag (s, body))) :
    ∃ t, o = .next t ∧ t = { s with control := t.control } ∧ s.Answers t type tag body :=
  ⟨_, h, rfl, rfl⟩

/-! ### During a swap (R72, R76) -/

section Busy
variable {s : State} (h : s.plans.swapInFlight = true)
include h

theorem doWritePlan_busy (f : PlanFields) : doWritePlan f s = (s, .busy) := if_pos h

theorem doClearPlan_busy (n : Half) : doClearPlan n s = (s, .busy) := if_pos h

theorem doCopyActive_busy : doCopyActive s = (s, .busy) := if_pos h

theorem doSwap_busy : doSwap s = (s, .busy) := if_pos h

end Busy

/-- Settles O26: each of the four commands judges the swap flag first. -/
theorem swapHoldsOffBankWrites : Obligations.SwapHoldsOffBankWrites := by
  intro tag s hs hf
  exact ⟨fun f => replies_only (by rw [exec_writePlan hs, doWritePlan_busy hf]),
    fun n => replies_only (by rw [exec_clearPlan hs, doClearPlan_busy hf]),
    replies_only (by rw [exec_copyActive hs, doCopyActive_busy hf]),
    replies_only (by rw [exec_swap hs, doSwap_busy hf])⟩

/-! ### Outside a swap -/

section Idle
variable {s : State} (idle : s.plans.swapInFlight = false)
include idle

theorem doWritePlan_bad {f : PlanFields} {e : OperandFault} (h : judgePlan f = .bad e) :
    doWritePlan f s = (s, .invalid e.code e.slot) := by
  simp only [doWritePlan, idle, h, Bool.false_eq_true, if_false]

theorem doWritePlan_good {f : PlanFields} {g : Group} {p : Plan} (h : judgePlan f = .good (g, p)) :
    doWritePlan f s = (s.writeShadow g p, .ok false (be16 g.val ++ [s.plans.shadow.code])) := by
  simp only [doWritePlan, idle, h, Bool.false_eq_true, if_false]

theorem doClearPlan_good {n : Half} {g : Group} (h : n.toNat = g.val) :
    doClearPlan n s = (s.writeShadow g Plan.default, .ok false (be16 g.val ++ [s.plans.shadow.code])) := by
  simp only [doClearPlan, idle, judgeGroup_eq_some.2 h, Bool.false_eq_true, if_false]

theorem doClearPlan_bad {n : Half} (h : 1023 < n.toNat) : doClearPlan n s = (s, .invalid .group none) := by
  simp only [doClearPlan, idle, judgeGroup_eq_none.2 h, Bool.false_eq_true, if_false, refuse]

theorem doCopyActive_idle : doCopyActive s =
    ({ s with plans := s.plans.setBank s.plans.shadow (s.plans.bank s.plans.active) },
      .ok false (be16 s.copyCount)) := by
  simp only [doCopyActive, idle, Bool.false_eq_true, if_false]

theorem doSwap_idle : doSwap s =
    (State.deliver (fun _ => true) { replan := true, rebalance := false }
      { s with plans := { s.plans with swapInFlight := true } },
      .ok false ([s.plans.shadow.code] ++ be16 1024)) := by
  simp only [doSwap, idle, Bool.false_eq_true, if_false]

end Idle

/-! ### The shadow bank written (R67, R70, R71) -/

/-- A bank written whole keeps the active bank and the swap flag. -/
theorem PlanStore.setBank_identity (p : PlanStore) (b : Bank) (m : GroupMap Plan) :
    (p.setBank b m).active = p.active ∧ (p.setBank b m).swapInFlight = p.swapInFlight := by
  cases b <;> exact ⟨rfl, rfl⟩

/-- The records after a bank is written whole. -/
theorem State.planIn_setBank (s : State) (b c : Bank) (m : GroupMap Plan) (k : Group) :
    ({ s with plans := s.plans.setBank b m } : State).planIn c k =
      if c = b then GroupMap.get Plan.default m k else s.planIn c k := by
  show GroupMap.get _ ((s.plans.setBank b m).bank c) k = _
  rw [PlanStore.bank_setBank]
  split <;> rfl

theorem State.planIn_writeShadow (s : State) (g : Group) (p : Plan) (c : Bank) (k : Group) :
    (s.writeShadow g p).planIn c k = if c = s.plans.shadow ∧ k = g then p else s.planIn c k := by
  unfold State.writeShadow
  rw [State.planIn_setBank, GroupMap.get_put]
  by_cases hc : c = s.plans.shadow
  · rw [if_pos hc, hc]
    by_cases hk : g = k
    · rw [if_pos hk, if_pos ⟨rfl, hk.symm⟩]
    · rw [if_neg hk, if_neg fun h => hk h.2.symm]
      rfl
  · rw [if_neg hc, if_neg fun h => hc h.1]

theorem PlanStore.shadow_ne_active (p : PlanStore) : p.active ≠ p.shadow := (Bank.other_ne p.active).symm

theorem PlanStore.shadow_code (p : PlanStore) :
    p.shadow.code = (match p.active with | .A => 1#8 | .B => 0#8) := by
  unfold PlanStore.shadow
  cases p.active <;> rfl

/-- What a write of one shadow record does: the record, and nothing else of the plans. -/
theorem State.writeShadow_spec (s : State) (g : Group) (p : Plan) :
    (s.writeShadow g p).plans.active = s.plans.active
      ∧ (s.writeShadow g p).plans.swapInFlight = s.plans.swapInFlight
      ∧ s.SameRecords (s.writeShadow g p) s.plans.active
      ∧ ∀ k, (s.writeShadow g p).planIn s.plans.shadow k = if k = g then p else s.planIn s.plans.shadow k := by
  obtain ⟨hactive, hflight⟩ := s.plans.setBank_identity s.plans.shadow
    (GroupMap.put Plan.default g p (s.plans.bank s.plans.shadow))
  refine ⟨hactive, hflight, fun k => ?_, fun k => ?_⟩
  · rw [State.planIn_writeShadow, if_neg fun h => s.plans.shadow_ne_active h.1]
  · rw [State.planIn_writeShadow]
    simp only [true_and]

/-- R71: the active bank written into the shadow bank. -/
theorem State.copyActive_spec (s : State) :
    let t : State := { s with plans := s.plans.setBank s.plans.shadow (s.plans.bank s.plans.active) }
    t.plans.active = s.plans.active ∧ t.plans.swapInFlight = s.plans.swapInFlight ∧ s.SameRecords t s.plans.active
      ∧ ∀ k, t.planIn s.plans.shadow k = s.planIn s.plans.active k := by
  obtain ⟨hactive, hflight⟩ := s.plans.setBank_identity s.plans.shadow (s.plans.bank s.plans.active)
  refine ⟨hactive, hflight, fun k => ?_, fun k => ?_⟩
  · rw [State.planIn_setBank, if_neg s.plans.shadow_ne_active]
  · rw [State.planIn_setBank, if_pos rfl]
    rfl

/-- R71: the records that a copy changes, counted. -/
theorem State.copyCount_eq (s : State) : s.copyCount =
    ((List.finRange 1024).filter fun k => s.planIn s.plans.shadow k ≠ s.planIn s.plans.active k).length := by
  unfold State.copyCount
  simp only [ne_eq, eq_comm]

/-- R64: the members of a record read back as the fields that gave them. -/
theorem memberOf_values {ms : List (Byte × Byte)} (h : ∀ m ∈ ms, m.1.toNat ≤ 15) :
    (ms.map memberOf).map (fun m => (m.uplink.val, m.weight)) = ms.map fun m => (m.1.toNat, m.2.toNat) := by
  rw [List.map_map]
  refine List.map_congr_left fun m hm => ?_
  have hlt : m.1.toNat % 16 = m.1.toNat := Nat.mod_eq_of_lt (by have := h m hm; omega)
  exact Prod.ext hlt rfl

/-- Section 11.4: a fallback field that passes checks 9 and 10, as the group it names. -/
theorem fallback_passes {fallback group : Half} {g : Group} (hg : group.toNat = g.val)
    (h : fallback = 0xFFFF#16 ∨ (fallback.toNat < 1024 ∧ fallback ≠ group)) :
    ∃ b : Option Group, b.map (·.val) = (if fallback = 0xFFFF#16 then none else some fallback.toNat)
      ∧ (fallback = 0xFFFF#16 ∧ b = none
        ∨ fallback ≠ 0xFFFF#16 ∧ ∃ k, judgeGroup fallback = some k ∧ k ≠ g ∧ b = some k) := by
  by_cases e : fallback = 0xFFFF#16
  · exact ⟨none, by rw [if_pos e]; rfl, .inl ⟨e, rfl⟩⟩
  · obtain ⟨hlt, hne⟩ := h.resolve_left e
    have hself : (⟨fallback.toNat, hlt⟩ : Group) ≠ g := fun hk =>
      hne (BitVec.eq_of_toNat_eq ((congrArg Fin.val hk).trans hg.symm))
    exact ⟨some ⟨fallback.toNat, hlt⟩, by rw [if_neg e]; rfl,
      .inr ⟨e, _, judgeGroup_eq_some.2 rfl, hself, rfl⟩⟩

/-- Settles O24: WRITE-PLAN and CLEAR-PLAN are one write of a shadow record, COPY-ACTIVE one of the whole bank. -/
theorem bankWritesWriteTheShadow : Obligations.BankWritesWriteTheShadow := by
  intro tag s hs idle shadow code
  have hshadow : shadow = s.plans.shadow := by
    unfold shadow PlanStore.shadow
    cases s.plans.active <;> rfl
  have hcode : code = s.plans.shadow.code := by
    unfold code PlanStore.shadow
    cases s.plans.active <;> rfl
  clear_value shadow code
  subst hshadow hcode
  refine ⟨fun f g hg hcount hmembers hdup hfold hrevert haction hfallback => ?_, fun n g hg => ?_, fun n hn => ?_, ?_⟩
  · obtain ⟨b, hb, hpasses⟩ := fallback_passes hg hfallback
    have huplink : ∀ m ∈ f.members, m.1.toNat ≤ 15 := fun m hm => (hmembers m hm).1
    have hgood := judgePlan_passes hg hcount huplink (fun m hm => (hmembers m hm).2) hdup hfold
      hrevert haction hpasses
    obtain ⟨hactive, hflight, hsame, hwritten⟩ := s.writeShadow_spec g _
    rw [exec_writePlan hs, doWritePlan_good idle hgood]
    exact ⟨_, _, rfl, rfl, hactive, hflight.trans idle, hsame, hwritten, memberOf_values huplink, by simp, by simp,
      by simp, hb, State.answers_finish _ _ _ rfl⟩
  · obtain ⟨hactive, hflight, hsame, hwritten⟩ := s.writeShadow_spec g Plan.default
    rw [exec_clearPlan hs, doClearPlan_good idle hg]
    exact ⟨_, rfl, rfl, hactive, hflight.trans idle, hsame, hwritten, State.answers_finish _ _ _ rfl⟩
  · exact replies_only (by rw [exec_clearPlan hs, doClearPlan_bad idle hn])
  · obtain ⟨hactive, hflight, hsame, hcopied⟩ := s.copyActive_spec
    rw [exec_copyActive hs, doCopyActive_idle idle, State.copyCount_eq]
    exact ⟨_, rfl, rfl, hactive, hflight.trans idle, hsame, hcopied, State.answers_finish _ _ _ rfl⟩

/-! ### The checks of WRITE-PLAN in their order (R68) -/

/-- Settles O25: the first check that fails gives the reply. The conditions are taken apart by rewriting, for what decides
them goes through all pairs of bytes and must not be evaluated. -/
theorem writePlanChecksInOrder : Obligations.WritePlanChecksInOrder := by
  intro tag f s hs idle refused
  have answer : ∀ {c slot}, judgePlan f = .bad { code := c, slot } → refused c slot := fun h =>
    replies_only (by rw [exec_writePlan hs, doWritePlan_bad idle h])
  clear_value refused
  rw [ite_prop_iff_and]
  refine ⟨fun hgroup => answer (judgePlan_group hgroup), fun hgroup => ?_⟩
  have hg : f.group.toNat = (⟨f.group.toNat, by omega⟩ : Group).val := rfl
  rw [ite_prop_iff_and]
  refine ⟨fun hmany => answer (judgePlan_count hg hmany), fun hmany => ?_⟩
  have hcount := not_lt.1 hmany
  rw [ite_prop_iff_and]
  refine ⟨fun h => (judgePlan_uplink hg hcount h).imp fun k hk => ⟨answer hk.1, hk.2⟩, fun h => ?_⟩
  have huplink := not_not.1 h
  rw [ite_prop_iff_and]
  refine ⟨fun h => (judgePlan_weight hg hcount huplink h).imp fun k hk => ⟨answer hk.1, hk.2⟩, fun h => ?_⟩
  have hweight := not_not.1 h
  rw [ite_prop_iff_and]
  refine ⟨fun h => (judgePlan_duplicate hg hcount huplink hweight h).imp fun k hk => ⟨answer hk.1, hk.2⟩,
    fun h => ?_⟩
  have hdup := not_not.1 h
  rw [ite_prop_iff_and]
  refine ⟨fun hmodes => answer (judgePlan_mode hg hcount huplink hweight hdup ?_), fun h => ?_⟩
  · simp only [not_and_or, not_le] at hmodes
    exact hmodes.imp judgeFlag_of_gt (Or.imp judgeFlag_of_gt judgeFlag_of_gt)
  · obtain ⟨hfold, hrevert, haction⟩ := not_not.1 h
    exact fun hpresent hfallback =>
      answer (judgePlan_fallback hg hcount huplink hweight hdup hfold hrevert haction hpresent hfallback)

/-! ### SWAP (R75) -/

/-- R75, R97: the mark of a swap keeps the rebalance flag an entry had. -/
theorem DirtyFlags.merge_replan (old : Option DirtyFlags) :
    ∃ rb, DirtyFlags.merge old { replan := true, rebalance := false } = { replan := true, rebalance := rb }
      ∧ (rb = true ↔ ∃ e, old = some e ∧ e.rebalance = true) := by
  cases old with
  | none => exact ⟨false, rfl, iff_of_false nofun nofun⟩
  | some e => exact ⟨e.rebalance, by simp [DirtyFlags.merge], by simp⟩

/-- R114: the episode after a delivery to a part with none open. -/
theorem State.deliver_episode_closed {s : State} (h : s.sweep.episode = none) (marked : Group → Bool)
    (f : DirtyFlags) : (s.deliver marked f).sweep.episode =
      if s.makesNew marked then
        some { startSeconds := s.clock.seconds, startMicros := s.clock.micros, passes := 0 } else none := by
  rw [State.deliver_episode]
  unfold State.episodeAfter
  rw [h]

theorem State.deliver_episode_open {s : State} {e : Episode} (h : s.sweep.episode = some e) (marked : Group → Bool)
    (f : DirtyFlags) : (s.deliver marked f).sweep.episode = some e := by
  rw [State.deliver_episode]
  unfold State.episodeAfter
  rw [h]

theorem State.deliver_frame (marked : Group → Bool) (f : DirtyFlags) (s : State) :
    s.deliver marked f = { s with sweep := { s.sweep with
      dirty := (s.deliver marked f).sweep.dirty, episode := (s.deliver marked f).sweep.episode } } := by
  rw [State.deliver_dirty, State.deliver_episode]
  unfold State.deliver
  rfl

/-- Settles O27: SWAP is the flag and one delivery of replan marks to every group. -/
theorem swapMarksEveryGroup : Obligations.SwapMarksEveryGroup := by
  intro tag s hs idle
  obtain ⟨m, hm⟩ : ∃ m : State, m = { s with plans := { s.plans with swapInFlight := true } } := ⟨_, rfl⟩
  obtain ⟨body, hbody⟩ : ∃ body, body = ReplyBody.ok false ([s.plans.shadow.code] ++ be16 1024) := ⟨_, rfl⟩
  have hsweep : m.sweep = s.sweep := by rw [hm]
  obtain ⟨t, ht⟩ : ∃ t, t = m.deliver (fun _ => true) { replan := true, rebalance := false } := ⟨_, rfl⟩
  have hframe : t = { m with sweep := { m.sweep with dirty := t.sweep.dirty, episode := t.sweep.episode } } := by
    rw [ht]
    exact State.deliver_frame _ _ _
  have hnew : m.makesNew (fun _ => true) = true ↔ ∃ g, GroupMap.find s.sweep.dirty g = none := by
    rw [State.makesNew_iff, hsweep]
    simp
  refine ⟨finish 0x24#8 tag (t, body), ?_, ?_, fun g => ?_,
    fun hclosed hg => ?_, fun hclosed hg => ?_, fun e hopen => ?_, ?_⟩
  · rw [exec_swap hs, doSwap_idle idle, ht, hm, hbody]
  · rw [hm] at hframe
    exact congrArg (fun r : State => { r with control := (finish 0x24#8 tag (t, body)).control }) hframe
  · show ∃ rb, GroupMap.find t.sweep.dirty g = _ ∧ _
    rw [ht, State.find_deliver, if_pos rfl, hsweep]
    obtain ⟨rb, e, hrb⟩ := DirtyFlags.merge_replan (GroupMap.find s.sweep.dirty g)
    exact ⟨rb, by rw [e], hrb⟩
  · show t.sweep.episode = _
    rw [ht, State.deliver_episode_closed (hsweep ▸ hclosed), if_pos (hnew.2 hg), hm]
  · show t.sweep.episode = _
    rw [ht, State.deliver_episode_closed (hsweep ▸ hclosed), if_neg fun h => ?_]
    obtain ⟨g, e⟩ := hnew.1 h
    exact hg g e
  · show t.sweep.episode = _
    rw [ht, State.deliver_episode_open (hsweep ▸ hopen)]
  · have hcontrol : t.control = s.control := by rw [hframe, hm]
    have hanswers : s.Answers (finish 0x24#8 tag (t, body)) 0x24#8 tag body := State.answers_finish _ _ _ hcontrol
    exact hanswers.trans (by rw [hbody, s.plans.shadow_code]; rfl)

/-! ### READ-PLAN (R73) -/

/-- R73: the bank codes A, B, ACTIVE and SHADOW. -/
theorem judgeBank_eq_some {p : PlanStore} {code : Byte} {b : Bank} (h : code = 0#8 ∧ b = .A ∨ code = 1#8 ∧ b = .B
    ∨ code = 2#8 ∧ b = p.active ∨ code = 3#8 ∧ b ≠ p.active) : judgeBank p code = some b := by
  obtain ⟨rfl, rfl⟩ | ⟨rfl, rfl⟩ | ⟨rfl, rfl⟩ | ⟨rfl, hne⟩ := h
  · rfl
  · rfl
  · rfl
  · rw [Bank.eq_other_of_ne hne]
    rfl

theorem judgeBank_eq_none {p : PlanStore} {code : Byte} (h : 3 < code.toNat) : judgeBank p code = none := by
  unfold judgeBank
  rw [if_neg (by bv_omega), if_neg (by bv_omega), if_neg (by bv_omega), if_neg (by bv_omega)]

theorem doReadPlan_good {s : State} {n : Half} {g : Group} {code : Byte} {b : Bank} (hg : n.toNat = g.val)
    (hb : judgeBank s.plans code = some b) : doReadPlan n code s =
      (s, .ok false ([b.code, flagByte (b = s.plans.active)] ++ (s.planIn b g).bytes g)) := by
  simp only [doReadPlan, judgeGroup_eq_some.2 hg, hb]

/-- R82 before R73: the group is judged first. -/
theorem doReadPlan_bad {n : Half} {code : Byte} (h : 1023 < n.toNat ∨ 3 < code.toNat) (s : State) :
    doReadPlan n code s = (s, .invalid (if 1023 < n.toNat then .group else .mode) none) := by
  by_cases hn : 1023 < n.toNat
  · simp only [doReadPlan, judgeGroup_eq_none.2 hn, if_pos hn, refuse]
  · have hg : n.toNat = (⟨n.toNat, by omega⟩ : Group).val := rfl
    simp only [doReadPlan, judgeGroup_eq_some.2 hg, judgeBank_eq_none (h.resolve_left hn), if_neg hn, refuse]

/-! ### READ-GROUP (R102, R117) -/

theorem State.underPass_eq_false {s : State} {g : Group} (h : ∀ p ∈ s.sweep.pass, p.group ≠ g) :
    s.underPass g = false := by
  unfold State.underPass
  cases hp : s.sweep.pass with
  | none => rfl
  | some p => exact decide_eq_false (h p hp)

theorem State.underPass_of_pass {s : State} {p : PassRecord} (h : s.sweep.pass = some p) :
    s.underPass p.group = true := by
  simp [State.underPass, h]

/-- A vector's elements are what it gives at each place. -/
theorem vector_toList_map {α β : Type} {n : Nat} (v : Vector α n) (f : α → β) :
    v.toList.map f = (List.finRange n).map fun i => f (v.get i) := by
  refine List.ext_getElem (by simp) fun i h1 h2 => ?_
  simp [Vector.get]

theorem takeReadGroup_settled {s : State} {n : Half} {g : Group} (tag : Byte) (hg : n.toNat = g.val)
    (h : s.underPass g = false) :
    takeReadGroup tag n s = finish 0x25#8 tag (s, .ok false (s.groupItems g)) := by
  simp only [takeReadGroup, judgeGroup_eq_some.2 hg, h, Bool.false_eq_true, if_false]
  rfl

theorem takeReadGroup_held {s : State} {n : Half} {g : Group} (tag : Byte) (hg : n.toNat = g.val)
    (h : s.underPass g = true) : takeReadGroup tag n s = s.hold tag (.readGroup n) := by
  simp only [takeReadGroup, judgeGroup_eq_some.2 hg, h, if_true]

theorem takeReadGroup_bad {n : Half} (tag : Byte) (h : 1023 < n.toNat) (s : State) :
    takeReadGroup tag n s = finish 0x25#8 tag (s, .invalid .group none) := by
  simp only [takeReadGroup, judgeGroup_eq_none.2 h]
  rfl

/-- Settles O28: each reading replies on the state as it stands, or waits in hand. -/
theorem planAndGroupReadings : Obligations.PlanAndGroupReadings := by
  intro tag s hs
  refine ⟨fun n g code b hg hb => ?_, fun n code h => ?_, fun n g hg hpass => ?_, fun n p hp hg => ?_, fun n hn => ?_⟩
  · have hread := exec_readPlan hs tag n code
    rw [doReadPlan_good hg (judgeBank_eq_some hb)] at hread
    refine replies_only (hread.trans ?_)
    unfold Plan.bytes fallbackBytes flagByte
    simp only [List.append_assoc, decide_eq_true_eq]
    cases (s.planIn b g).fallback <;> rfl
  · exact replies_only (by rw [exec_readPlan hs, doReadPlan_bad h])
  · have hread := exec_readGroup hs tag n
    rw [takeReadGroup_settled tag hg (State.underPass_eq_false hpass)] at hread
    refine replies_only (hread.trans ?_)
    have hbyte : ∀ x : Bucket, x.byte = match x with
        | { home := some h, current := some c } => byte (16 * h.val + c.val)
        | _ => 0x80#8 := fun ⟨h, c⟩ => by
      cases h <;> cases c <;> rfl
    simp only [State.groupItems, vector_toList_map, hbyte]
    cases GroupMap.find s.sweep.dirty g <;> rfl
  · rw [exec_readGroup hs, takeReadGroup_held tag hg (State.underPass_of_pass hp)]
    rfl
  · exact replies_only (by rw [exec_readGroup hs, takeReadGroup_bad tag hn])

/-! ### GET-STATUS (R169) -/

/-- R74, R117, R169: what GET-STATUS does and reports. -/
theorem takeCommand_getStatus (tag : Byte) (s : State) : takeCommand tag .getStatus s = { s with
    fwd := { s.fwd with headerErrors := 0 }
    control := { s.control with
      frameErrors := 0
      replies := s.control.replies ++ [{ type := 0x02#8, tag, body := .ok false s.statusItems }] } } := rfl

/-- R165, R166: the end of a reply with a command waiting and nothing in hand takes that command. -/
theorem replySent_takes {s : State} {r : Reply} {q : TaggedCommand} {waiting : List TaggedCommand}
    (hh : s.control.inHand = none) (hr : s.control.replies = [r]) (hq : s.control.queue = q :: waiting) :
    replySent s = takeCommand q.tag q.command
      { s with control := { s.control with replies := [], ctx := some r, queue := waiting } } := by
  simp only [replySent, hr, hh, State.takeNext, State.mayTake, hq, Option.isNone_none, List.isEmpty_nil, Bool.and_self,
    if_true]

/-- Settles O22: GET-STATUS taken, at its arrival and at the end of the reply before it. -/
theorem getStatusReportsAndClearsErrorCounts : Obligations.GetStatusReportsAndClearsErrorCounts := by
  intro tag s
  refine ⟨fun hs => ?_, fun r waiting hheld hh hr hq => ?_⟩
  · obtain ⟨-, hqueue, -, hreplies⟩ := id hs
    rw [show exec (.getStatus tag) s = _ from exec_rowOf hs tag .getStatus, takeCommand_getStatus, hreplies]
    unfold State.statusItems State.replansRemaining
    rw [hqueue]
    cases s.plans.active <;> rfl
  · rw [show exec .replySent s = _ from whenRunning_of_released hheld replySent, replySent_takes hh hr hq,
      takeCommand_getStatus]
    unfold State.statusItems State.replansRemaining
    cases s.plans.active <;> rfl

end Sys2Proof.Machine
end

section
/-! The bucket a flow hash selects (O33). -/

namespace Sys2Proof.Machine

/-- R86: three six-bit numbers folded together are one. -/
theorem fold_lt (h : Half) : (h.toNat % 64 ^^^ h.toNat / 64 % 64) ^^^ h.toNat / 4096 < 64 := by
  have hlow : h.toNat % 64 < 2 ^ 6 := Nat.mod_lt _ (by decide)
  have hmid : h.toNat / 64 % 64 < 2 ^ 6 := Nat.mod_lt _ (by decide)
  have hhigh : h.toNat / 4096 < 2 ^ 6 := by have := h.isLt; omega
  exact Nat.xor_lt_two_pow (Nat.xor_lt_two_pow hlow hmid) hhigh

/-- R86: the quotients and remainders of the fold are the hash's low six, middle six and top four bits. -/
theorem fold_eq_bits (h : Half) : (h.toNat % 64 ^^^ h.toNat / 64 % 64) ^^^ h.toNat / 4096 =
    (h.extractLsb' 0 6 ^^^ h.extractLsb' 6 6 ^^^ (h.extractLsb' 12 4).zeroExtend 6).toNat := by
  have htop : h.toNat / 4096 % 16 % 64 = h.toNat / 4096 := by have := h.isLt; omega
  simp [Nat.shiftRight_eq_div_pow, htop]

/-- Settles O33: under FOLD the XOR of the parts is below 64, so no bit of it is lost. -/
theorem foldsSelectTheBucket : Obligations.FoldsSelectTheBucket := by
  intro h
  have hfold : (foldHash .fold h).val = (h.toNat % 64 ^^^ h.toNat / 64 % 64) ^^^ h.toNat / 4096 :=
    Nat.mod_eq_of_lt (fold_lt h)
  exact ⟨Nat.mod_mod _ _, hfold, hfold.trans (fold_eq_bits h)⟩

end Sys2Proof.Machine
end

section
/-! The largest-remainder shares and the home runs (O34). -/

namespace Sys2Proof.Machine

/-! ### Ranks in a strict order -/

section Rank
variable {α : Type} {l : List α} {r : α → α → Bool}

/-- Under a strict order, an element that comes before another has fewer before it. -/
theorem countP_before_lt (hirr : ∀ a, r a a = false) (htrans : ∀ a b c, r a b = true → r b c = true → r a c = true)
    {a b : α} (ha : a ∈ l) (hab : r a b = true) : l.countP (r · a) < l.countP (r · b) := by
  have hsub : ∀ m : List α, m.countP (r · a) ≤ m.countP (r · b) := fun m =>
    List.countP_mono_left fun x _ hx => htrans x a b hx hab
  obtain ⟨m, n, rfl⟩ := List.append_of_mem ha
  have hm := hsub m
  have hn := hsub n
  simp only [List.countP_append, List.countP_cons, hirr, hab, Bool.false_eq_true, if_false, if_true]
  omega

/-- Under a strict order that compares every two elements of a list, the elements' ranks are 0, 1, 2, and so on. -/
theorem map_countP_perm_range (hirr : ∀ a, r a a = false)
    (htrans : ∀ a b c, r a b = true → r b c = true → r a c = true) (hnodup : l.Nodup)
    (htotal : ∀ a ∈ l, ∀ b ∈ l, a ≠ b → r a b = true ∨ r b a = true) :
    (l.map fun e => l.countP (r · e)).Perm (List.range l.length) := by
  have hinj : (l.map fun e => l.countP (r · e)).Nodup := by
    refine List.Nodup.map_on (fun a ha b hb heq => ?_) hnodup
    by_contra hne
    obtain hab | hba := htotal a ha b hb hne
    · exact absurd heq (countP_before_lt hirr htrans ha hab).ne
    · exact absurd heq.symm (countP_before_lt hirr htrans hb hba).ne
  refine (List.subperm_of_subset hinj fun n hn => ?_).perm_of_length_le (by simp)
  obtain ⟨e, he, rfl⟩ := List.mem_map.1 hn
  exact List.mem_range.2 (List.countP_lt_length_iff.2 ⟨e, he, hirr e⟩)

end Rank

theorem countP_lt_range (n k : Nat) : (List.range n).countP (fun i => decide (i < k)) = min n k := by
  induction n with
  | zero => simp
  | succ n ih =>
    rw [List.range_succ, List.countP_append, ih, List.countP_singleton]
    by_cases h : n < k <;> simp [h] <;> omega

theorem sum_map_ite_one {α : Type} (p : α → Bool) (l : List α) :
    (l.map fun e => if p e then 1 else 0).sum = l.countP p := by
  induction l with
  | nil => rfl
  | cons a l ih => rw [List.map_cons, List.sum_cons, ih, List.countP_cons, Nat.add_comm]

/-! ### The shares (R88) -/

/-- R88, step 2: how `x` ranks before `e` among members of weight sum `W`. -/
def ranksBefore (W : Nat) (x e : Slot × Nat) : Bool :=
  decide (remainder W e.2 < remainder W x.2 ∨ (remainder W e.2 = remainder W x.2 ∧ x.1 < e.1))

theorem rankBefore_eq (S : List (Slot × Nat)) (e : Slot × Nat) :
    rankBefore S e = S.countP (ranksBefore (totalWeight S) · e) := by
  unfold rankBefore ranksBefore
  congr 1
  funext x
  rw [Bool.eq_iff_iff]
  simp only [Bool.or_eq_true, Bool.and_eq_true, decide_eq_true_eq, eq_comm (a := remainder (totalWeight S) x.2)]

theorem ranksBefore_irrefl (W : Nat) (e : Slot × Nat) : ranksBefore W e e = false := by
  simp [ranksBefore]

theorem ranksBefore_trans (W : Nat) (a b c : Slot × Nat) (hab : ranksBefore W a b = true)
    (hbc : ranksBefore W b c = true) : ranksBefore W a c = true := by
  simp only [ranksBefore, decide_eq_true_eq, Fin.lt_def] at *
  omega

theorem ranksBefore_total (W : Nat) {a b : Slot × Nat} (h : a.1 ≠ b.1) :
    ranksBefore W a b = true ∨ ranksBefore W b a = true := by
  simp only [ranksBefore, decide_eq_true_eq, Fin.lt_def]
  rw [Ne, Fin.ext_iff] at h
  omega

/-- R88, step 1: the floor shares and the remainders account for 64 times the weights. -/
theorem floorShares_add_remainders (W : Nat) (S : List (Slot × Nat)) :
    W * (S.map fun e => floorShare W e.2).sum + (S.map fun e => remainder W e.2).sum = 64 * (S.map (·.2)).sum := by
  induction S with
  | nil => rfl
  | cons e S ih =>
    have := Nat.div_add_mod (64 * e.2) W
    simp only [List.map_cons, List.sum_cons, Nat.mul_add, floorShare, remainder] at *
    omega

/-- R88: at most 64 buckets go by floor shares, and fewer are left over than there are members, one each at most. -/
theorem floorShares_leftOver {S : List (Slot × Nat)} (h : 0 < totalWeight S) :
    (S.map fun e => floorShare (totalWeight S) e.2).sum + leftOver S = 64 ∧ leftOver S ≤ S.length := by
  obtain ⟨W, hW⟩ : ∃ W, W = totalWeight S := ⟨_, rfl⟩
  have hsum := floorShares_add_remainders W S
  have hremainders : (S.map fun e => remainder W e.2).sum ≤ W * S.length := by
    have := List.sum_le_card_nsmul (S.map fun e => remainder W e.2) W fun x hx => by
      obtain ⟨e, -, rfl⟩ := List.mem_map.1 hx
      exact (Nat.mod_lt _ (by omega)).le
    simpa [Nat.mul_comm] using this
  unfold leftOver
  rw [← hW] at h ⊢
  generalize (S.map fun e => floorShare W e.2).sum = F at *
  generalize (S.map fun e => remainder W e.2).sum = R at *
  have hweights : W * F + R = W * 64 := by rw [hsum, hW, Nat.mul_comm]; rfl
  have hF : F ≤ 64 := Nat.le_of_mul_le_mul_left (hweights ▸ Nat.le_add_right _ _) h
  refine ⟨by omega, Nat.le_of_mul_le_mul_left ?_ h⟩
  rw [Nat.mul_sub]
  omega

/-- R88, step 3: exactly as many members as buckets left over rank among the first of them. -/
theorem countP_rankBefore {S : List (Slot × Nat)} (hslots : (S.map (·.1)).Nodup) {n : Nat} (hn : n ≤ S.length) :
    S.countP (fun e => decide (rankBefore S e < n)) = n := by
  have hperm := map_countP_perm_range (l := S) (ranksBefore_irrefl (totalWeight S)) (ranksBefore_trans _)
    (.of_map _ hslots) fun a ha b hb hne =>
      ranksBefore_total _ fun heq => hne (List.inj_on_of_nodup_map hslots ha hb heq)
  have hcount := hperm.countP_eq (fun i => decide (i < n))
  rw [List.countP_map, countP_lt_range, Nat.min_eq_right hn] at hcount
  simp only [rankBefore_eq]
  exact hcount

/-- R88: the shares are 64 buckets. -/
theorem apportion_sum {S : List (Slot × Nat)} (hslots : (S.map (·.1)).Nodup) (h : 0 < totalWeight S) :
    ((apportion S).map (·.2)).sum = 64 := by
  obtain ⟨hsum, hleft⟩ := floorShares_leftOver h
  calc ((apportion S).map (·.2)).sum
      = (S.map fun e => floorShare (totalWeight S) e.2).sum
          + (S.map fun e => if decide (rankBefore S e < leftOver S) then 1 else 0).sum := by
        rw [← List.sum_map_add, apportion, List.map_map]
        congr 2
        funext e
        simp
    _ = (S.map fun e => floorShare (totalWeight S) e.2).sum + leftOver S := by
        rw [sum_map_ite_one, countP_rankBefore hslots hleft]
    _ = 64 := hsum

/-- A weight of each member makes a weight of the set. -/
theorem totalWeight_pos {S : List (Slot × Nat)} (hS : S ≠ []) (hw : ∀ e ∈ S, 1 ≤ e.2) : 0 < totalWeight S := by
  obtain ⟨e, he⟩ := List.exists_mem_of_ne_nil S hS
  exact (hw e he).trans (List.le_sum_of_mem (List.mem_map_of_mem he))

/-! ### Contiguous runs (R89) -/

section Runs
variable {T : List (Slot × Nat)}

theorem runs_length (T : List (Slot × Nat)) :
    (T.flatMap fun e => List.replicate e.2 e.1).length = (T.map (·.2)).sum := by
  simp [List.length_flatMap]

theorem runs_sorted (hT : T.Pairwise fun x y => x.1 < y.1) :
    (T.flatMap fun e => List.replicate e.2 e.1).Pairwise (· ≤ ·) := by
  refine List.pairwise_flatMap.2 ⟨fun e _ => List.pairwise_replicate.2 (.inr (le_refl e.1)), hT.imp ?_⟩
  intro x y hxy a ha b hb
  rw [List.eq_of_mem_replicate ha, List.eq_of_mem_replicate hb]
  exact hxy.le

theorem mem_runs {k : Slot} (h : k ∈ T.flatMap fun e => List.replicate e.2 e.1) : k ∈ T.map (·.1) := by
  obtain ⟨e, he, hk⟩ := List.mem_flatMap.1 h
  exact List.mem_map.2 ⟨e, he, (List.eq_of_mem_replicate hk).symm⟩

/-- Each slot's run is as long as its share. -/
theorem runs_count (hT : (T.map (·.1)).Nodup) {e : Slot × Nat} (he : e ∈ T) :
    (T.flatMap fun e => List.replicate e.2 e.1).count e.1 = e.2 := by
  induction T with
  | nil => simp at he
  | cons x T ih =>
    obtain ⟨hx, hT⟩ := List.nodup_cons.1 hT
    rw [List.flatMap_cons, List.count_append]
    obtain rfl | he := List.mem_cons.1 he
    · rw [List.count_replicate_self, List.count_eq_zero.2 fun hmem => hx (mem_runs hmem), Nat.add_zero]
    · have hne : x.1 ≠ e.1 := fun heq => hx (List.mem_map.2 ⟨e, he, heq.symm⟩)
      rw [ih hT he, List.count_replicate, if_neg (by simpa using hne), Nat.zero_add]

end Runs

/-! ### The members of a plan in slot order -/

theorem Plan.weighted_sorted (p : Plan) (keep : Member → Bool) :
    (p.weighted keep).Pairwise fun x y => x.1 < y.1 := by
  have hslot : ∀ (k : Slot) (e : Slot × Nat), (match p.member k with
      | some m => if keep m then some (k, m.weight) else none
      | none => none) = some e → e.1 = k := fun k e h => by
    split at h
    · split at h <;> cases h
      rfl
    · cases h
  refine List.Pairwise.filterMap _ (fun j k hjk x hx y hy => ?_) (List.pairwise_lt_finRange 8)
  rw [hslot j x hx, hslot k y hy]
  exact hjk

/-- Slots in rising order repeat none. -/
theorem slots_nodup {S : List (Slot × Nat)} (h : S.Pairwise fun x y => x.1 < y.1) : (S.map (·.1)).Nodup :=
  List.pairwise_map.2 (h.imp fun hxy => hxy.ne)

theorem apportion_sorted {S : List (Slot × Nat)} (h : S.Pairwise fun x y => x.1 < y.1) :
    (apportion S).Pairwise fun x y => x.1 < y.1 :=
  List.pairwise_map.2 h

/-- R64: at most 8 members, each with a weight. The shares need no more of a record. -/
def Plan.Apportionable (p : Plan) : Prop := p.members.length ≤ 8 ∧ ∀ m ∈ p.members, 1 ≤ m.weight

theorem Plan.WellFormed.apportionable {p : Plan} {g : Group} (h : p.WellFormed g) : p.Apportionable := by
  obtain ⟨hlength, -, hweight, -⟩ := h
  exact ⟨hlength, fun m hm => (hweight m hm).1⟩

theorem Plan.lt_of_member {p : Plan} {k : Slot} {m : Member} (h : p.member k = some m) : k.val < p.members.length :=
  (List.getElem?_eq_some_iff.1 h).1

section Home
variable {p : Plan} (h : p.Apportionable) (hp : p.members ≠ [])
include h hp

theorem homeRuns_length : (homeRuns p).length = 64 := by
  have hne : p.weighted (fun _ => true) ≠ [] := by
    obtain ⟨m, hm⟩ := List.exists_mem_of_ne_nil _ hp
    obtain ⟨k, hk⟩ := Plan.exists_slot h.1 hm
    exact List.ne_nil_of_mem (a := (k, m.weight)) (Plan.mem_weighted.2 ⟨m, hk, rfl, rfl⟩)
  refine (runs_length _).trans (apportion_sum (slots_nodup (p.weighted_sorted _)) (totalWeight_pos hne fun e he => ?_))
  obtain ⟨m, hm, -, hw⟩ := Plan.mem_weighted.1 he
  rw [hw]
  exact h.2 m (Plan.mem_of_member hm)

/-- R89: every bucket's home is a populated slot. -/
theorem homeRuns_populated (b : BucketNo) : ∃ k, (homeRuns p)[b.val]? = some k ∧ p.Populated k := by
  have hb : b.val < (homeRuns p).length := by rw [homeRuns_length h hp]; exact b.isLt
  refine ⟨_, List.getElem?_eq_getElem hb, ?_⟩
  have hslot := mem_runs (List.getElem_mem hb)
  rw [apportion_slots] at hslot
  obtain ⟨e, he, hk⟩ := List.mem_map.1 hslot
  obtain ⟨m, hm, -⟩ := Plan.mem_weighted.1 he
  rw [← hk]
  exact Plan.lt_of_member hm

end Home

theorem homeArray_get {p : Plan} {b : BucketNo} {k : Slot} (h : (homeRuns p)[b.val]? = some k) :
    (homeArray p).get b = { home := some k, current := some k } := by
  rw [homeArray, vector_get_ofFn, h]

/-- Settles O34: the ranks are a permutation of 0, 1, 2, and so on, so as many members get one bucket more as the floor
shares leave over. -/
theorem sharesAndHomeRuns : Obligations.SharesAndHomeRuns := by
  refine ⟨fun S hS hsorted hweights => ⟨apportion_slots S, ?_, fun e he => ?_⟩, fun p g hwf hp => ?_⟩
  · exact apportion_sum (slots_nodup hsorted) (totalWeight_pos hS fun e he => (hweights e he).1)
  · have hrank := rankBefore_eq S e
    rw [List.countP_eq_length_filter] at hrank
    refine List.mem_map.2 ⟨e, he, ?_⟩
    rw [hrank]
    rfl
  · have hmembers : ((List.finRange 8).filterMap fun k => (p.members[k.val]?).map fun m => (k, m.weight)) =
        p.weighted fun _ => true := by
      unfold Plan.weighted Plan.member
      congr 1
      funext k
      cases p.members[k.val]? <;> rfl
    simp only [hmembers]
    have hsorted := apportion_sorted (p.weighted_sorted fun _ => true)
    refine ⟨homeRuns_length hwf.apportionable hp, runs_sorted hsorted, fun e => runs_count (slots_nodup hsorted),
      fun b => ?_⟩
    obtain ⟨k, hk, hpop⟩ := homeRuns_populated hwf.apportionable hp b
    exact ⟨k, hpop, hk, homeArray_get hk⟩

end Sys2Proof.Machine
end

section
/-! What a pass writes into each bucket (O35). -/

namespace Sys2Proof.Machine

/-! ### The revert step (R91) -/

theorem revertStep_get (p : Plan) (rebalance : Bool) (snapshot : UplinkSet) (a : BucketArray) (b : BucketNo) :
    (revertStep p rebalance snapshot a).get b =
      if p.revert = .revertive ∨ rebalance = true then revertBucket p snapshot (a.get b) else a.get b := by
  unfold revertStep
  by_cases h : p.revert = .revertive ∨ rebalance = true
  · rw [if_pos (by simpa using h), if_pos h, vector_get_ofFn]
  · rw [if_neg (by simpa using h), if_neg h]

/-- R91: where the revert step leaves a bucket's current slot. -/
def revertSlot (p : Plan) (rebalance : Bool) (snapshot : UplinkSet) (home was : Slot) : Slot :=
  if (p.revert = .revertive ∨ rebalance = true) ∧ p.slotUsable snapshot home = true then home else was

theorem revertStep_bucket {p : Plan} {snapshot : UplinkSet} {a : BucketArray} {b : BucketNo} {h c : Slot}
    (rebalance : Bool) (hb : a.get b = { home := some h, current := some c }) :
    (revertStep p rebalance snapshot a).get b =
      { home := some h, current := some (revertSlot p rebalance snapshot h c) } := by
  rw [revertStep_get, hb]
  unfold revertSlot revertBucket
  by_cases hr : p.revert = .revertive ∨ rebalance = true <;>
    by_cases hu : p.slotUsable snapshot h = true <;> simp [hr, hu]

/-- R91: a usable home takes its bucket back where the revert step runs. -/
theorem revertSlot_of_home {p : Plan} {rebalance : Bool} {snapshot : UplinkSet} {h : Slot} (c : Slot)
    (hrev : p.revert = .revertive ∨ rebalance = true) (hu : p.slotUsable snapshot h = true) :
    revertSlot p rebalance snapshot h c = h := if_pos ⟨hrev, hu⟩

theorem revertSlot_of_not_home {p : Plan} {rebalance : Bool} {snapshot : UplinkSet} {h : Slot} (c : Slot)
    (hno : ¬ ((p.revert = .revertive ∨ rebalance = true) ∧ p.slotUsable snapshot h = true)) :
    revertSlot p rebalance snapshot h c = c := if_neg hno

/-- R92: the buckets that are no orphans are those whose home has been taken and those whose current slot is usable. -/
theorem slotUsable_revertSlot {p : Plan} {rebalance : Bool} {snapshot : UplinkSet} {h c : Slot} :
    p.slotUsable snapshot (revertSlot p rebalance snapshot h c) = true ↔
      ((p.revert = .revertive ∨ rebalance = true) ∧ p.slotUsable snapshot h = true)
        ∨ p.slotUsable snapshot c = true := by
  by_cases hrev : (p.revert = .revertive ∨ rebalance = true) ∧ p.slotUsable snapshot h = true
  · rw [revertSlot_of_home c hrev.1 hrev.2]
    exact iff_of_true hrev.2 (.inl hrev)
  · rw [revertSlot_of_not_home c hrev, or_iff_right hrev]

/-! ### The greatest deficit (R93) -/

/-- R93: among deficits in slot order the one chosen is greatest, and first in slot order among its equals. -/
theorem greatest_max {d : List (Slot × Int)} (hd : d.Pairwise fun x y => x.1 < y.1) {m : Slot × Int}
    (hm : greatest d = some m) : ∀ e ∈ d, e.2 < m.2 ∨ (e.2 = m.2 ∧ m.1 ≤ e.1) := by
  induction d generalizing m with
  | nil => simp
  | cons a rest ih =>
    obtain ⟨ha, hrest⟩ := List.pairwise_cons.1 hd
    simp only [greatest] at hm
    split at hm
    · rename_i hnone
      cases hm
      simp [greatest_eq_none hnone]
    · rename_i x hx
      have hlater := ih hrest hx
      have hax := ha x (greatest_mem hx)
      simp only [List.mem_cons, forall_eq_or_imp]
      split at hm <;> cases hm
      · rename_i hle
        refine ⟨.inr ⟨rfl, le_refl _⟩, fun e he => ?_⟩
        have hae := (ha e he).le
        obtain hlt | ⟨heq, -⟩ := hlater e he
        · exact .inl (hlt.trans_le hle)
        · exact (heq.trans_le hle).lt_or_eq.imp_right fun h => ⟨h, hae⟩
      · rename_i hgt
        exact ⟨.inl (not_le.1 hgt), hlater⟩

/-! ### The deal (R92, R93) -/

/-- R93: an orphan dealt to a slot leaves the deficits that a new count of the array gives. -/
theorem deficits_dealt {p : Plan} {snapshot : UplinkSet} {T : List (Slot × Nat)}
    (hT : ∀ e ∈ T, p.slotUsable snapshot e.1 = true) {b : Bucket} (hb : isOrphan p snapshot b = true)
    (k : Slot) (pre rest : List Bucket) :
    giveOne k (deficits T (pre ++ b :: rest)) =
      deficits T (pre ++ { b with current := some k } :: rest) := by
  unfold giveOne deficits
  rw [List.map_map]
  refine List.map_congr_left fun e he => ?_
  have hold : b.current ≠ some e.1 := fun hc => by simp [isOrphan, hc, hT e he] at hb
  by_cases hk : e.1 = k
  · subst hk
    simp [countCurrent, List.countP_append, hold]
    omega
  · simp [countCurrent, List.countP_append, hold, hk, Ne.symm hk]

/-- R92, R93: the deal bucket by bucket: what is no orphan stays, and an orphan goes to the greatest of the deficits,
counted over the buckets dealt before it and those still to come. -/
theorem dealFrom_getElem? {p : Plan} {snapshot : UplinkSet} {T : List (Slot × Nat)}
    (hT : ∀ e ∈ T, p.slotUsable snapshot e.1 = true) (hne : T ≠ []) (pre l : List Bucket) {i : Nat} {b : Bucket}
    (hi : l[i]? = some b) :
    (isOrphan p snapshot b = false → (dealFrom p snapshot (deficits T (pre ++ l)) l)[i]? = some b)
    ∧ (isOrphan p snapshot b = true → ∃ m, greatest (deficits T (pre ++
          ((dealFrom p snapshot (deficits T (pre ++ l)) l).take i ++ l.drop i))) = some m
        ∧ (dealFrom p snapshot (deficits T (pre ++ l)) l)[i]? = some { b with current := some m.1 }) := by
  induction l generalizing pre i with
  | nil => simp at hi
  | cons x rest ih =>
    obtain ⟨y, hy, hyx, hrun⟩ : ∃ y, dealFrom p snapshot (deficits T (pre ++ x :: rest)) (x :: rest) =
        y :: dealFrom p snapshot (deficits T ((pre ++ [y]) ++ rest)) rest
        ∧ (isOrphan p snapshot x = false → y = x)
        ∧ (isOrphan p snapshot x = true → ∃ m, greatest (deficits T (pre ++ x :: rest)) = some m
            ∧ y = { x with current := some m.1 }) := by
      simp only [dealFrom, List.append_assoc, List.singleton_append]
      cases hx : isOrphan p snapshot x with
      | false => exact ⟨x, by simp⟩
      | true =>
        cases hg : greatest (deficits T (pre ++ x :: rest)) with
        | none => exact absurd (List.map_eq_nil_iff.1 (greatest_eq_none hg)) hne
        | some m => exact ⟨{ x with current := some m.1 }, by simp [deficits_dealt hT hx]⟩
    rw [hy]
    cases i with
    | zero =>
      cases hi
      refine ⟨fun hx => by simp [hyx hx], fun hx => ?_⟩
      obtain ⟨m, hm, rfl⟩ := hrun hx
      exact ⟨m, hm, rfl⟩
    | succ i => simpa using ih (pre ++ [y]) hi

theorem vector_toList_getElem? {α : Type} {n : Nat} (v : Vector α n) (i : Fin n) :
    v.toList[i.val]? = some (v.get i) := by
  simp [Vector.get_eq_getElem]

/-- R93: with no usable member the deal does not run. -/
theorem dealStep_of_none {p : Plan} {snapshot : UplinkSet} (h : p.usableSet snapshot = []) (a : BucketArray) :
    dealStep p snapshot a = a := by
  simp [dealStep, h]

theorem dealStep_toList {p : Plan} {snapshot : UplinkSet} (h : p.usableSet snapshot ≠ []) (a : BucketArray) :
    (dealStep p snapshot a).toList =
      dealFrom p snapshot (deficits (apportion (p.usableSet snapshot)) a.toList) a.toList := by
  simp [dealStep, h]

theorem Plan.slotUsable_of_apportion {p : Plan} {snapshot : UplinkSet} {e : Slot × Nat}
    (h : e ∈ apportion (p.usableSet snapshot)) : p.slotUsable snapshot e.1 = true := by
  have hslot := List.mem_map_of_mem (f := (·.1)) h
  rw [apportion_slots] at hslot
  obtain ⟨x, hx, hxe⟩ := List.mem_map.1 hslot
  rw [← hxe]
  exact Plan.slotUsable_of_usableSet hx

/-- R93: the buckets as the deal finds them at bucket `b`: those below `b` as it has left them, the others as they
came. -/
def dealtBelow (new old : BucketArray) (b c : BucketNo) : Bucket := if c < b then new.get c else old.get c

theorem take_append_drop_toList (new old : BucketArray) (b : BucketNo) :
    new.toList.take b.val ++ old.toList.drop b.val = (List.finRange 64).map (dealtBelow new old b) := by
  refine List.ext_getElem (by simp) fun i hi _ => ?_
  simp only [List.length_append, List.length_take, List.length_drop, Vector.length_toList] at hi
  rw [List.getElem_append]
  simp only [List.length_take, Vector.length_toList, List.getElem_take, List.getElem_drop, Vector.getElem_toList,
    List.getElem_map, List.getElem_finRange, dealtBelow, Vector.get_eq_getElem, Fin.lt_def, Fin.val_cast]
  by_cases h : i < b.val
  · simp [h]
  · simp only [h, not_false_eq_true, dif_neg, if_false, Nat.min_eq_left (Nat.le_of_lt b.isLt),
      Nat.add_sub_cancel' (not_lt.1 h)]

/-- R93: the slot chosen is usable. -/
theorem slotUsable_of_greatest {p : Plan} {snapshot : UplinkSet} {a : List Bucket} {m : Slot × Int}
    (h : greatest (deficits (apportion (p.usableSet snapshot)) a) = some m) : p.slotUsable snapshot m.1 = true := by
  obtain ⟨e, he, hem⟩ := List.mem_map.1 (greatest_mem h)
  rw [← hem]
  exact Plan.slotUsable_of_apportion he

/-- R92: what is no orphan stays in the deal. -/
theorem dealStep_kept {p : Plan} {snapshot : UplinkSet} {a : BucketArray} {b : BucketNo}
    (hb : isOrphan p snapshot (a.get b) = false) : (dealStep p snapshot a).get b = a.get b := by
  by_cases hS : p.usableSet snapshot = []
  · rw [dealStep_of_none hS]
  have hne : apportion (p.usableSet snapshot) ≠ [] := fun h => hS (List.map_eq_nil_iff.1 h)
  obtain ⟨hkept, -⟩ := dealFrom_getElem? (fun e => Plan.slotUsable_of_apportion) hne [] a.toList
    (vector_toList_getElem? a b)
  have hget := hkept hb
  rw [List.nil_append, ← dealStep_toList hS, vector_toList_getElem?] at hget
  exact Option.some.inj hget

/-- R93: an orphan goes to the greatest deficit at its turn. -/
theorem dealStep_dealt {p : Plan} {snapshot : UplinkSet} {a : BucketArray} {b : BucketNo}
    (hS : p.usableSet snapshot ≠ []) (hb : isOrphan p snapshot (a.get b) = true) :
    ∃ m, greatest (deficits (apportion (p.usableSet snapshot))
        ((List.finRange 64).map (dealtBelow (dealStep p snapshot a) a b))) = some m
      ∧ (dealStep p snapshot a).get b = { a.get b with current := some m.1 } := by
  have hne : apportion (p.usableSet snapshot) ≠ [] := fun h => hS (List.map_eq_nil_iff.1 h)
  obtain ⟨-, hdealt⟩ := dealFrom_getElem? (fun e => Plan.slotUsable_of_apportion) hne [] a.toList
    (vector_toList_getElem? a b)
  obtain ⟨m, hm, hget⟩ := hdealt hb
  rw [List.nil_append, List.nil_append, ← dealStep_toList hS, take_append_drop_toList] at hm
  rw [List.nil_append, ← dealStep_toList hS, vector_toList_getElem?] at hget
  exact ⟨m, hm, Option.some.inj hget⟩

/-! ### A whole pass (R90 to R94) -/

theorem Plan.slotUsable_iff {p : Plan} {snapshot : UplinkSet} {k : Slot} :
    p.slotUsable snapshot k = true ↔ ∃ m, p.members[k.val]? = some m ∧ snapshot.get m.uplink = true := by
  unfold Plan.slotUsable Plan.member
  cases p.members[k.val]? <;> simp

/-- R90: the usable set is empty exactly if no slot is usable. -/
theorem Plan.usableSet_eq_nil_iff {p : Plan} {snapshot : UplinkSet} :
    p.usableSet snapshot = [] ↔ ∀ k, p.slotUsable snapshot k = false := by
  rw [List.eq_nil_iff_forall_not_mem]
  refine ⟨fun hnone k => Bool.eq_false_iff.2 fun hk => ?_, fun hnone e he => ?_⟩
  · obtain ⟨m, hm, hu⟩ := Plan.slotUsable_iff.1 hk
    exact hnone (k, m.weight) (Plan.mem_weighted.2 ⟨m, hm, hu, rfl⟩)
  · exact Bool.eq_false_iff.1 (hnone e.1) (Plan.slotUsable_of_usableSet he)

/-- R90 to R94: where a pass leaves a bucket of home `h` and current slot `c`. A slot that is usable after the revert
step is kept; an orphan goes to the greatest deficit at its turn, if a member is usable. -/
theorem passArray_bucket {p : Plan} {snapshot : UplinkSet} {a : BucketArray} {b : BucketNo} {h c : Slot}
    (rebalance : Bool) (hb : a.get b = { home := some h, current := some c }) :
    ∃ now, (passArray p rebalance snapshot a).get b = { home := some h, current := some now }
      ∧ (p.slotUsable snapshot (revertSlot p rebalance snapshot h c) = true ∨ p.usableSet snapshot = [] →
          now = revertSlot p rebalance snapshot h c)
      ∧ (p.slotUsable snapshot (revertSlot p rebalance snapshot h c) = false → p.usableSet snapshot ≠ [] →
          ∃ m, greatest (deficits (apportion (p.usableSet snapshot)) ((List.finRange 64).map (dealtBelow
            (passArray p rebalance snapshot a) (revertStep p rebalance snapshot a) b))) = some m ∧ now = m.1) := by
  have hr := revertStep_bucket (p := p) (snapshot := snapshot) rebalance hb
  have horphan : isOrphan p snapshot ((revertStep p rebalance snapshot a).get b) =
      !p.slotUsable snapshot (revertSlot p rebalance snapshot h c) := by rw [hr]; rfl
  unfold passArray
  cases hu : p.slotUsable snapshot (revertSlot p rebalance snapshot h c) with
  | true =>
    refine ⟨_, (dealStep_kept (by rw [horphan, hu]; rfl)).trans hr, fun _ => rfl, nofun⟩
  | false =>
    by_cases hS : p.usableSet snapshot = []
    · exact ⟨_, by rw [dealStep_of_none hS, hr], fun _ => rfl, fun _ hne => absurd hS hne⟩
    · obtain ⟨m, hm, hget⟩ := dealStep_dealt hS (by rw [horphan, hu]; rfl)
      exact ⟨m.1, by rw [hget, hr], by simp [hS], fun _ _ => ⟨m, hm, rfl⟩⟩

/-- A count over all buckets, by any list of the buckets it counts. -/
theorem countCurrent_eq_length {f : BucketNo → Bucket} {k : Slot} {bs : List BucketNo} (hbs : bs.Nodup)
    (hmem : ∀ c, c ∈ bs ↔ (f c).current = some k) : countCurrent ((List.finRange 64).map f) k = bs.length := by
  unfold countCurrent
  rw [List.countP_map, List.countP_eq_length_filter]
  refine List.Perm.length_eq ((List.perm_ext_iff_of_nodup ((List.nodup_finRange 64).filter _) hbs).2 fun c => ?_)
  simp [hmem]

/-- R93: no member's deficit is greater than that of the slot chosen, and among equals the chosen slot is lowest. -/
theorem greatest_deficit {T : List (Slot × Nat)} (hT : T.Pairwise fun x y => x.1 < y.1) {a : List Bucket}
    {m : Slot × Int} (hm : greatest (deficits T a) = some m) {k : Slot} {target targetNow : Nat} (hk : (k, target) ∈ T)
    (hnow : (m.1, targetNow) ∈ T) :
    ((target : Int) - countCurrent a k < (targetNow : Int) - countCurrent a m.1)
      ∨ ((target : Int) - countCurrent a k = (targetNow : Int) - countCurrent a m.1 ∧ m.1 ≤ k) := by
  have hd : (deficits T a).Pairwise fun x y => x.1 < y.1 := List.pairwise_map.2 hT
  have hchosen : m = (m.1, (targetNow : Int) - countCurrent a m.1) :=
    List.inj_on_of_nodup_map (List.pairwise_map.2 (hd.imp fun h => h.ne)) (greatest_mem hm)
      (List.mem_map.2 ⟨_, hnow, rfl⟩) rfl
  have hmax := greatest_max hd hm (k, (target : Int) - countCurrent a k) (List.mem_map.2 ⟨_, hk, rfl⟩)
  rw [hchosen] at hmax
  exact hmax

/-- R93: at bucket `b`'s turn, the buckets that a usable member has are those that its deal or the revert step has given
it, and those that were its own. -/
theorem countCurrent_dealtBelow {p : Plan} {rebalance : Bool} {snapshot : UplinkSet} {a : BucketArray}
    {home was now : BucketNo → Slot} (ha : ∀ b, a.get b = { home := some (home b), current := some (was b) })
    (hget : ∀ b, (passArray p rebalance snapshot a).get b = { home := some (home b), current := some (now b) })
    (hkept : ∀ b, p.slotUsable snapshot (revertSlot p rebalance snapshot (home b) (was b)) = true →
      now b = revertSlot p rebalance snapshot (home b) (was b))
    {b : BucketNo} {k : Slot} (hk : p.slotUsable snapshot k = true) {bs : List BucketNo} (hnodup : bs.Nodup)
    (hbs : ∀ c, c ∈ bs ↔ (c < b ∨ ((p.revert = .revertive ∨ rebalance = true) ∧ p.slotUsable snapshot (home c) = true)
      ∨ p.slotUsable snapshot (was c) = true) ∧ now c = k) :
    countCurrent ((List.finRange 64).map
      (dealtBelow (passArray p rebalance snapshot a) (revertStep p rebalance snapshot a) b)) k = bs.length := by
  refine countCurrent_eq_length hnodup fun c => (hbs c).trans ?_
  unfold dealtBelow
  rw [hget, revertStep_bucket rebalance (ha c), ← slotUsable_revertSlot]
  by_cases hc : c < b
  · simp [hc]
  · simp only [hc, false_or, if_false, Option.some.injEq]
    constructor
    · rintro ⟨hu, rfl⟩
      exact (hkept c hu).symm
    · rintro rfl
      exact ⟨hk, hkept c hk⟩

/-- Settles O35: bucket by bucket, a pass is its revert step and its deal. -/
theorem passMovesOnlyOrphans : Obligations.PassMovesOnlyOrphans := by
  intro p g rebalance snapshot a home was _ _ ha _
  simp only [← Plan.slotUsable_iff]
  choose now hget hstay hdeal using fun b => passArray_bucket (p := p) (snapshot := snapshot) rebalance (ha b)
  have hkept := fun b hu => hstay b (.inl hu)
  refine ⟨now, hget, fun hnone b => ?_, fun b hrev hu => ?_, fun b hno hu => ?_, fun b k hk hno hnot => ?_⟩
  · have hS := Plan.usableSet_eq_nil_iff.2 fun k => Bool.eq_false_iff.2 (hnone k)
    rw [hstay b (.inr hS), revertSlot_of_not_home _ fun h => hnone _ h.2]
  · rw [hkept b (slotUsable_revertSlot.2 (.inl ⟨hrev, hu⟩)), revertSlot_of_home _ hrev hu]
  · rw [hkept b (slotUsable_revertSlot.2 (.inr hu)), revertSlot_of_not_home _ hno]
  · have hS : p.usableSet snapshot ≠ [] := fun hnil => by simp [Plan.usableSet_eq_nil_iff.1 hnil k] at hk
    have horphan : p.slotUsable snapshot (revertSlot p rebalance snapshot (home b) (was b)) = false :=
      Bool.eq_false_iff.2 fun h => (slotUsable_revertSlot.1 h).elim hno hnot
    obtain ⟨m, hm, hchosen⟩ := hdeal b horphan hS
    have hmu := slotUsable_of_greatest hm
    rw [hchosen]
    refine ⟨hmu, ?_⟩
    rintro target _ targetNow _ htarget htargetNow ⟨bs, hnodup, rfl, hbs⟩ ⟨bsNow, hnodupNow, rfl, hbsNow⟩
    rw [← countCurrent_dealtBelow ha hget hkept hk hnodup hbs,
      ← countCurrent_dealtBelow ha hget hkept hmu hnodupNow hbsNow]
    exact greatest_deficit (apportion_sorted (p.weighted_sorted _)) hm htarget htargetNow

end Sys2Proof.Machine
end

section
/-! The stand-in (O36). -/

namespace Sys2Proof.Machine

/-- The first value along 0, 1, 2, and so on: some number gives it and none below gives any. -/
theorem findSome?_range_eq_some {α : Type} {f : Nat → Option α} {n : Nat} {x : α} :
    (List.range n).findSome? f = some x ↔ ∃ j < n, f j = some x ∧ ∀ i < j, f i = none := by
  induction n with
  | zero => simp
  | succ n ih =>
    rw [List.range_succ, List.findSome?_append, Option.or_eq_some_iff, ih, List.findSome?_eq_none_iff]
    simp only [List.mem_range, List.findSome?_singleton]
    constructor
    · rintro (⟨j, hj, hx⟩ | ⟨hnone, hx⟩)
      · exact ⟨j, by omega, hx⟩
      · exact ⟨n, by omega, hx, hnone⟩
    · rintro ⟨j, hj, hx, hnone⟩
      by_cases hjn : j < n
      · exact .inl ⟨j, hjn, hx, hnone⟩
      · obtain rfl : j = n := by omega
        exact .inr ⟨hnone, hx⟩

theorem Plan.usableUplink_eq_some {p : Plan} {flags : UplinkSet} {k : Slot} {u : Uplink} :
    p.usableUplink flags k = some u ↔ ∃ m, p.members[k.val]? = some m ∧ m.uplink = u ∧ flags.get u = true := by
  unfold Plan.usableUplink Plan.member
  cases p.members[k.val]? with
  | none => simp
  | some m =>
    by_cases hu : flags.get m.uplink = true
    · simp only [hu, if_true, Option.some.injEq, exists_eq_left']
      exact ⟨fun h => ⟨h, h ▸ hu⟩, fun h => h.1⟩
    · simp only [hu, Option.some.injEq, exists_eq_left']
      exact iff_of_false (by simp) fun h => hu (h.1 ▸ h.2)

/-- R95: the slot examined `j` places after the current one. -/
def slotAfter (p : Plan) (current : Slot) (j : Nat) : Slot := Fin.ofNat 8 ((current.val + j) % p.members.length)

section
variable {p : Plan} {current : Slot} (hlength : p.members.length ≤ 8) (hcurrent : current.val < p.members.length)
include hlength hcurrent

theorem slotAfter_val (j : Nat) : (slotAfter p current j).val = (current.val + j) % p.members.length := by
  have := Nat.mod_lt (current.val + j) (show 0 < p.members.length by omega)
  exact Nat.mod_eq_of_lt (by omega)

/-- R95: one turn round the slots comes to every member. -/
theorem exists_slotAfter {m : Member} (hm : m ∈ p.members) :
    ∃ j < p.members.length, p.members[(slotAfter p current (j + 1)).val]? = some m := by
  obtain ⟨i, hi, rfl⟩ := List.mem_iff_getElem.1 hm
  obtain ⟨j, hj, hji⟩ : ∃ j < p.members.length, (current.val + (j + 1)) % p.members.length = i := by
    by_cases hic : current.val < i
    · exact ⟨i - current.val - 1, by omega, by rw [Nat.mod_eq_of_lt] <;> omega⟩
    · refine ⟨p.members.length - 1 - (current.val - i), by omega, ?_⟩
      rw [show current.val + (p.members.length - 1 - (current.val - i) + 1) = i + p.members.length by omega,
        Nat.add_mod_right, Nat.mod_eq_of_lt hi]
  exact ⟨j, hj, by rw [slotAfter_val hlength hcurrent, hji, List.getElem?_eq_getElem hi]⟩

end

theorem standIn_eq (p : Plan) (flags : UplinkSet) (current : Slot) :
    standIn p flags current =
      (List.range p.members.length).findSome? fun j => p.usableUplink flags (slotAfter p current (j + 1)) := by
  unfold standIn standInOrder
  rw [List.findSome?_map]
  simp only [Function.comp_def, slotAfter, Nat.add_assoc, Nat.add_comm 1]

/-- Settles O36: the search meets the slots in the order of the statement, and one turn meets every member. -/
theorem standInIsTheNextUsableSlot : Obligations.StandInIsTheNextUsableSlot := by
  intro p flags current hlength hcurrent n usableAt
  have hat : ∀ j u, p.usableUplink flags (slotAfter p current j) = some u ↔ usableAt j u := fun j u => by
    rw [Plan.usableUplink_eq_some, slotAfter_val hlength hcurrent]
  have hnone : ∀ j, p.usableUplink flags (slotAfter p current j) = none ↔ ∀ v, ¬ usableAt j v := fun j => by
    rw [Option.eq_none_iff_forall_ne_some]
    exact forall_congr' fun v => not_congr (hat j v)
  rw [standIn_eq]
  refine ⟨fun u => ?_, ?_⟩
  · rw [findSome?_range_eq_some]
    constructor
    · rintro ⟨j, hj, hu, hbefore⟩
      refine ⟨j + 1, by omega, hj, (hat _ u).1 hu, fun i v h1 hi => ?_⟩
      obtain ⟨i, rfl⟩ := Nat.exists_eq_add_of_le' h1
      exact (hnone _).1 (hbefore i (by omega)) v
    · rintro ⟨j, h1, hj, hu, hbefore⟩
      obtain ⟨j, rfl⟩ := Nat.exists_eq_add_of_le' h1
      exact ⟨j, hj, (hat _ u).2 hu, fun i hi => (hnone _).2 fun v => hbefore _ v (by omega) (by omega)⟩
  · rw [List.findSome?_eq_none_iff]
    simp only [List.mem_range, hnone]
    constructor
    · intro hall m hm
      obtain ⟨j, hj, hget⟩ := exists_slotAfter hlength hcurrent hm
      rw [slotAfter_val hlength hcurrent] at hget
      exact Bool.eq_false_iff.2 fun hu => hall j hj m.uplink ⟨m, hget, rfl, hu⟩
    · rintro hall j - u ⟨m, hm, rfl, hu⟩
      rw [hall m (List.mem_of_getElem? hm)] at hu
      cases hu

end Sys2Proof.Machine
end

section
/-! The planned groups' arrays are sound after every step (O58). -/

namespace Sys2Proof.Machine

/-! ### An array over a plan -/

/-- R84, R89: every bucket has its home by the shares of the plan and a populated current slot. -/
def BucketArray.SoundFor (a : BucketArray) (p : Plan) : Prop :=
  ∀ b : BucketNo, ∃ h c, a.get b = { home := some h, current := some c }
    ∧ (homeRuns p)[b.val]? = some h ∧ p.Populated h ∧ p.Populated c

/-- R89: the shares, and so the homes and the populated slots, are read off the members alone. -/
theorem BucketArray.SoundFor.of_members {a : BucketArray} {p q : Plan} (h : a.SoundFor p)
    (hm : q.members = p.members) : a.SoundFor q := by
  unfold SoundFor homeRuns Plan.weighted Plan.member Plan.Populated at h ⊢
  rw [hm]
  exact h

/-- R89: the home assignment of a planned record. -/
theorem homeArray_soundFor {p : Plan} (h : p.Apportionable) (hp : p.members ≠ []) : (homeArray p).SoundFor p := by
  intro b
  obtain ⟨k, hk, hpop⟩ := homeRuns_populated h hp b
  exact ⟨k, k, homeArray_get hk, hk, hpop, hpop⟩

theorem Plan.populated_of_slotUsable {p : Plan} {snapshot : UplinkSet} {k : Slot}
    (h : p.slotUsable snapshot k = true) : p.Populated k := by
  obtain ⟨m, hm, -⟩ := Plan.slotUsable_iff.1 h
  exact Plan.lt_of_member hm

/-- R90 to R94: a pass keeps the homes and leaves each bucket on a populated slot. -/
theorem passArray_soundFor {a : BucketArray} {p : Plan} (ha : a.SoundFor p) (rebalance : Bool)
    (snapshot : UplinkSet) : (passArray p rebalance snapshot a).SoundFor p := by
  intro b
  obtain ⟨h, c, hb, hrun, hh, hc⟩ := ha b
  obtain ⟨now, hnow, hkept, hdealt⟩ := passArray_bucket (p := p) (snapshot := snapshot) rebalance hb
  refine ⟨h, now, hnow, hrun, hh, ?_⟩
  by_cases hstay : p.slotUsable snapshot (revertSlot p rebalance snapshot h c) = true ∨ p.usableSet snapshot = []
  · rw [hkept hstay]
    unfold revertSlot
    split
    · exact hh
    · exact hc
  · rw [not_or, Bool.not_eq_true] at hstay
    obtain ⟨hunusable, hsome⟩ := hstay
    obtain ⟨m, hm, rfl⟩ := hdealt hunusable hsome
    exact Plan.populated_of_slotUsable (slotUsable_of_greatest hm)

/-! ### A group's record over a plan -/

/-- R84, R109: the array in service is sound for a planned record; over an unplanned one it is cleared, and the group
not evacuated. -/
def GroupBuckets.SoundFor (x : GroupBuckets) (p : Plan) : Prop :=
  if p.planned then (x.array x.selector).SoundFor p
  else x.array x.selector = BucketArray.cleared ∧ x.evacuated = false

theorem arraysSound_iff {s : State} : ArraysSound s ↔ ∀ g, (s.group g).SoundFor (s.servedPlan g) := Iff.rfl

theorem GroupBuckets.SoundFor.array {x : GroupBuckets} {p : Plan} (h : x.SoundFor p) (hp : p.planned = true) :
    (x.array x.selector).SoundFor p := by
  unfold GroupBuckets.SoundFor at h
  rwa [if_pos hp] at h

theorem GroupBuckets.soundFor_planned {x : GroupBuckets} {p : Plan} (hp : p.planned = true)
    (h : (x.array x.selector).SoundFor p) : x.SoundFor p := by
  unfold GroupBuckets.SoundFor
  rwa [if_pos hp]

/-- The unplanned-hit flag is no part of it. -/
theorem GroupBuckets.SoundFor.of_hit {x y : GroupBuckets} {p : Plan} (h : x.SoundFor p) {hit : Bool}
    (hy : y = { x with unplannedHit := hit }) : y.SoundFor p := by
  have harray : y.array y.selector = x.array x.selector := by
    rw [hy]
    cases x.selector <;> rfl
  have hevac : y.evacuated = x.evacuated := by rw [hy]
  unfold GroupBuckets.SoundFor at *
  rwa [harray, hevac]

/-- R103, R104: an ordinary pass. -/
theorem ordinaryResult_soundFor {x : GroupBuckets} {p : Plan} (h : x.SoundFor p) (rebalance : Bool)
    (snapshot : UplinkSet) : (ordinaryResult p x rebalance snapshot).SoundFor p := by
  unfold ordinaryResult
  split
  · rename_i hp
    have harray : ∀ a : BucketArray, ({ x.setArray x.selector a with
        evacuated := passEvacuated p snapshot } : GroupBuckets).array (x.setArray x.selector a).selector = a :=
      fun a => by rw [GroupBuckets.setArray_selector]; exact GroupBuckets.array_setArray x x.selector a
    refine GroupBuckets.soundFor_planned hp ?_
    rw [harray]
    exact passArray_soundFor (h.array hp) rebalance snapshot
  · exact h

/-- R107 to R111: a replan pass. It starts from the array in service only if the members are the same, and else from the
home assignment of the new record. -/
theorem replanResult_soundFor {x : GroupBuckets} {old new : Plan} (h : old.Apportionable → x.SoundFor old)
    (hnew : new.Apportionable) (rebalance : Bool) (snapshot : UplinkSet) :
    (replanResult old new x rebalance snapshot).SoundFor new := by
  unfold replanResult
  cases hp : new.planned with
  | false =>
    unfold GroupBuckets.SoundFor
    simp only [hp, Bool.not_false, if_true, Bool.false_eq_true, if_false, and_true]
    exact GroupBuckets.array_setArray _ _ _
  | true =>
    have hstart : (if new.members = old.members then x.array x.selector else homeArray new).SoundFor new := by
      split
      · rename_i hm
        have hold : old.Apportionable := by
          unfold Plan.Apportionable at hnew ⊢
          rwa [← hm]
        have hplanned : old.planned = true := by
          unfold Plan.planned at hp ⊢
          rwa [← hm]
        exact ((h hold).array hplanned).of_members hm
      · exact homeArray_soundFor hnew (by simpa [Plan.planned] using hp)
    have harray := GroupBuckets.array_setArray x x.selector.other (passArray new rebalance snapshot
      (if new.members = old.members then x.array x.selector else homeArray new))
    refine GroupBuckets.soundFor_planned hp ?_
    have hpass := passArray_soundFor hstart rebalance snapshot
    rw [← harray] at hpass
    exact hpass

/-! ### Every move -/

/-- Every group served from a record that the shares can be taken of is sound for it. The moves keep this whatever
records the shadow bank is given; that every record can be shared out is the banks' own invariant (R64). -/
def ArraysFollow (s : State) : Prop :=
  ∀ g, (s.servedPlan g).Apportionable → (s.group g).SoundFor (s.servedPlan g)

/-- What leaves the plans in service and the groups' records. -/
theorem ArraysFollow.of_served {s t : State} (h : ArraysFollow s) (hplan : ∀ g, t.servedPlan g = s.servedPlan g)
    (hgroup : ∀ g, ∃ hit, t.group g = { s.group g with unplannedHit := hit }) : ArraysFollow t := by
  intro g hg
  obtain ⟨hit, e⟩ := hgroup g
  rw [hplan] at hg ⊢
  exact (h g hg).of_hit e

theorem ArraysFollow.of_remarked {s t : State} (h : ArraysFollow s) (hr : State.Remarked s t) : ArraysFollow t :=
  h.of_served hr.served hr.group

/-- R75: a swap begun moves no group. -/
theorem ArraysFollow.swapBegun {s : State} (h : ArraysFollow s) :
    ArraysFollow (State.deliver (fun _ => true) { replan := true, rebalance := false }
      { s with plans := { s.plans with swapInFlight := true } }) := by
  refine h.of_served (fun g => ?_) fun g => ⟨(s.group g).unplannedHit, by rw [State.deliver_group]; rfl⟩
  have hbank : ∀ b, ({ s.plans with swapInFlight := true } : PlanStore).bank b = s.plans.bank b := fun b => by
    cases b <;> rfl
  rw [State.deliver_servedPlan]
  unfold State.servedPlan State.planIn
  rw [hbank]
  rfl

/-- R103, R107: what a pass writes is sound for the plan it was applied to. -/
theorem State.passResult_soundFor {s : State} {p : PassRecord} (h : ArraysFollow s)
    (hp : (s.passPlan p).Apportionable) : (s.passResult p).SoundFor (s.passPlan p) := by
  unfold State.passResult
  split
  · exact replanResult_soundFor (h p.group) hp _ _
  · rename_i hreplan
    have hserved : s.passPlan p = s.servedPlan p.group := if_neg hreplan
    rw [hserved] at hp ⊢
    exact ordinaryResult_soundFor (h p.group hp) _ _

/-- R105: a completion. -/
theorem ArraysFollow.completed {s t : State} {p : PassRecord} (h : ArraysFollow s) (hc : State.Completed s p t) :
    ArraysFollow t := by
  intro g hg
  by_cases hself : p.group = g
  · subst hself
    rw [hc.servedPlan_self] at hg ⊢
    rw [hc.group, if_pos rfl]
    exact State.passResult_soundFor h hg
  · have hgroup : t.group g = s.group g := by rw [hc.group, if_neg hself]
    have hplan : t.servedPlan g = s.servedPlan g := by
      unfold State.servedPlan
      rw [hc.planIn, hgroup]
    rw [hplan] at hg ⊢
    rw [hgroup]
    exact h g hg

/-- R116: after a reset every group is unplanned and cleared. -/
theorem State.toReset_arraysFollow (s : State) (held : Bool) : ArraysFollow (s.toReset held) := by
  obtain ⟨-, harrays, -⟩ := State.reset_sweepSound
  exact fun g _ => arraysSound_iff.1 harrays g

theorem State.Move.arraysFollow {s t : State} (hmove : s.Move t) (hswap : SwapSound s) (h : ArraysFollow s) :
    ArraysFollow t := by
  cases hmove with
  | quiet hq => exact h.of_remarked hq.remarked
  | evaluated events he => exact h.of_remarked (he.remarked events)
  | rebalanced marked => exact h.of_remarked (State.deliver_remarked s marked)
  | shadowWritten idle hbank => exact h.of_remarked (State.shadowWritten_remarked hswap idle hbank)
  | swapBegun idle => exact h.swapBegun
  | passBegun =>
    rw [passBegin_frame]
    exact h
  | passCompleted hp => exact h.completed (s.completePass_completed _)
  | hitNoted g => exact h.of_remarked (State.hitNoted_remarked s g)
  | reset held => exact State.toReset_arraysFollow s held

/-- What the moves keep together: the swap with the episode and the buckets, and the arrays in service. -/
def ServiceSound (s : State) : Prop := BooksSound s ∧ ArraysFollow s

theorem State.Move.serviceSound {s t : State} (hmove : s.Move t) (h : ServiceSound s) : ServiceSound t := by
  obtain ⟨hbooks, hfollow⟩ := h
  obtain ⟨hswap, -⟩ := id hbooks
  exact ⟨hmove.booksSound hbooks, hmove.arraysFollow hswap hfollow⟩

/-! ### Every step -/

/-- Settles O58: the moves of a step keep the arrays with the swap, and the banks are sound after the step, so that
every plan in service can be shared out. -/
theorem stepsKeepArraysSound : Obligations.StepsKeepArraysSound := by
  intro s t hbanks harrays ht
  obtain ⟨-, hbooks⟩ := banksSound_iff.1 hbanks
  obtain ⟨-, hfollow⟩ := (step_moves ht).keeps State.Move.serviceSound
    ⟨hbooks, fun g _ => arraysSound_iff.1 harrays g⟩
  obtain ⟨-, hwf, -⟩ := stepsKeepBanksSound s t hbanks ht
  exact arraysSound_iff.2 fun g => hfollow g (hwf _ g).apportionable

end Sys2Proof.Machine
end

section
/-! SUPPORT. What the rows of the other blocks and the commands' effects leave of the control port and of the pass in
flight, which is all that the control port's invariant reads. -/

namespace Sys2Proof.Machine

/-- The control port and the pass in flight are those of another state. -/
def State.SamePort (s t : State) : Prop := t.control = s.control ∧ t.sweep.pass = s.sweep.pass

theorem State.SamePort.refl (s : State) : s.SamePort s := ⟨rfl, rfl⟩

theorem State.SamePort.trans {s t r : State} (h1 : s.SamePort t) (h2 : t.SamePort r) : s.SamePort r := by
  obtain ⟨hc1, hp1⟩ := h1
  obtain ⟨hc2, hp2⟩ := h2
  exact ⟨hc2.trans hc1, hp2.trans hp1⟩

/-- A quiet change leaves the pass in flight. -/
theorem State.Quiet.samePort {s t : State} (h : s.Quiet t) (hc : t.control = s.control) : s.SamePort t := by
  obtain ⟨⟨-, -, hs⟩, -⟩ := h
  exact ⟨hc, by rw [hs]⟩

/-! ### The operations -/

theorem State.evaluateUsability_samePort (touched : List Conduit) (events : List Event) (m s : State) :
    m.SamePort (m.evaluateUsability touched events s) :=
  ⟨State.evaluateUsability_control _ _ _ _, (State.evaluateUsability_sweep _ _ _ _).2⟩

theorem State.settleHealth_samePort (u : Uplink) (y : UplinkState × List Event) (s before : State) :
    s.SamePort (s.settleHealth u y before) := State.evaluateUsability_samePort _ _ (s.setUplink u y.1) _

theorem State.handOver_samePort (u : Uplink) (x : UplinkState) (s : State) : s.SamePort (s.handOver u x) := by
  obtain ⟨_, _, _, ⟨⟨-, -, -, -, hpass, -⟩, -⟩, -, hcontrol, -⟩ := State.handOver_spec u x s
  exact ⟨hcontrol, hpass⟩

theorem State.emit_samePort (u : Uplink) (s : State) : s.SamePort (s.emit u) := by
  refine (State.emit_quiet u s).samePort ?_
  cases hc : (s.uplink u).clock with
  | stopped => rw [State.emit_stopped hc]
  | running start n => rw [State.emit_running hc, State.handProbe_control]; rfl

theorem State.emitAtStart_samePort (u : Uplink) (s : State) : s.SamePort (s.emitAtStart u) := by
  unfold State.emitAtStart
  split
  · exact State.emit_samePort u s
  · exact .refl s

theorem State.evaluatePause_samePort (l : Lane) (s : State) : s.SamePort (s.evaluatePause l) := by
  refine (State.evaluatePause_quiet l s).samePort ?_
  unfold State.evaluatePause
  split
  · rw [State.handSignal_control]; rfl
  · rfl

theorem State.evaluateResume_samePort (l : Lane) (s : State) : s.SamePort (s.evaluateResume l) := by
  refine (State.evaluateResume_quiet l s).samePort ?_
  unfold State.evaluateResume
  split
  · rw [State.handSignal_control]; rfl
  · rfl

theorem State.deliver_samePort (marked : Group → Bool) (f : DirtyFlags) (s : State) : s.SamePort (s.deliver marked f) :=
  ⟨State.deliver_control _ _ _, State.deliver_pass _ _ _⟩

/-! ### The rows -/

theorem losEdge_samePort (u : Uplink) (level : Bool) (s : State) : s.SamePort (losEdge u level s) := by
  by_cases hpin : s.resetHeld = true ∨ (s.uplink u).rawLos = level
  · rw [losEdge_pin hpin]
    exact .refl s
  · rw [not_or, Bool.not_eq_true] at hpin
    obtain ⟨hr, hl⟩ := hpin
    cases hm : (s.uplink u).monitored with
    | false => rw [losEdge_disabled hr hl hm]; exact .refl s
    | true => rw [losEdge_monitored hr hl hm]; exact State.handOver_samePort _ _ s

theorem lossQualifyExpiry_samePort (u : Uplink) (s : State) : s.SamePort (lossQualifyExpiry u s) := by
  cases ht : (s.uplink u).lossTimer with
  | none => rw [lossQualifyExpiry_stopped ht]; exact .refl s
  | some e => rw [lossQualifyExpiry_running ht]; exact State.handOver_samePort _ _ (s.advanceTo e)

theorem lightQualifyExpiry_samePort (u : Uplink) (s : State) : s.SamePort (lightQualifyExpiry u s) := by
  cases ht : (s.uplink u).lightTimer with
  | none => rw [lightQualifyExpiry_stopped ht]; exact .refl s
  | some e => rw [lightQualifyExpiry_running ht]; exact State.handOver_samePort _ _ (s.advanceTo e)

theorem holdOffExpiry_samePort (u : Uplink) (s : State) : s.SamePort (holdOffExpiry u s) := by
  unfold holdOffExpiry
  split
  · rename_i e _
    exact State.settleHealth_samePort _ _ (s.advanceTo e) _
  · exact .refl s

theorem waitToRestoreExpiry_samePort (u : Uplink) (s : State) : s.SamePort (waitToRestoreExpiry u s) := by
  unfold waitToRestoreExpiry
  split
  · rename_i e _
    exact State.settleHealth_samePort _ _ (s.advanceTo e) _
  · exact .refl s

theorem continuityDeadlineExpiry_samePort (u : Uplink) (s : State) : s.SamePort (continuityDeadlineExpiry u s) := by
  cases hd : (s.uplink u).deadline with
  | stopped => rw [continuityDeadlineExpiry_stopped (.inl hd)]; exact .refl s
  | suspended => rw [continuityDeadlineExpiry_stopped (.inr hd)]; exact .refl s
  | running e => rw [continuityDeadlineExpiry_running hd]; exact State.handOver_samePort _ _ (s.advanceTo e)

theorem probeEmission_samePort (u : Uplink) (s : State) : s.SamePort (probeEmission u s) := by
  unfold probeEmission
  split
  · rename_i e _
    exact State.emit_samePort u (s.advanceTo e)
  · exact .refl s

theorem State.laneArrival_samePort (q : Request) (s : State) : s.SamePort (s.laneArrival q) := by
  refine (State.laneArrival_quiet q s).samePort ?_
  unfold State.laneArrival
  simp only
  split
  · exact State.handRefusal_control _ s
  · split
    · split <;> exact State.handRefusal_control _ s
    · exact (State.evaluatePause_samePort q.lane (s.setLane q.lane _)).1

theorem recordArrival_samePort (r : Record) (s : State) : s.SamePort (recordArrival r s) := by
  have haccept : ∀ k, s.SamePort (s.acceptRecord k) := fun k =>
    (State.acceptRecord_quiet k s).samePort (by unfold State.acceptRecord; split <;> rfl)
  unfold recordArrival
  split
  · rename_i k _
    cases k with
    | sync => exact haccept _
    | lookupReq => exact (haccept _).trans (State.laneArrival_samePort _ _)
    | probeIn => exact (haccept _).trans (State.handOver_samePort _ _ _)
  · exact .refl s

theorem silenceExpiry_samePort (s : State) : s.SamePort (silenceExpiry s) := by
  refine (silenceExpiry_quiet s).samePort ?_
  unfold silenceExpiry
  split <;> rfl

theorem State.serve_samePort (l : Lane) (q : Request) (rest : List Request) (s : State) :
    s.SamePort (s.serve l q rest) := by
  have hnote : ∀ m : State, m.SamePort (m.noteUnplanned q) := fun m => by
    unfold State.noteUnplanned
    repeat' split
    all_goals exact .refl m
  exact (State.evaluateResume_samePort l { s.setLane l { s.lane l with queue := rest } with
    lookup := { (s.setLane l { s.lane l with queue := rest }).lookup with lastServed := l } }).trans (hnote _)

theorem serviceBegin_samePort (s : State) : s.SamePort (serviceBegin s) := by
  unfold serviceBegin
  repeat' split
  · exact .refl s
  · exact .refl s
  · exact .refl s
  · exact State.serve_samePort _ _ _ s

theorem recordTime_samePort (s : State) : s.SamePort (recordTime s) := by
  refine (recordTime_quiet s).samePort ?_
  unfold recordTime
  repeat' split
  all_goals rfl

theorem lingerExpiry_samePort (s : State) : s.SamePort (lingerExpiry s) := by
  refine (lingerExpiry_quiet s).samePort ?_
  unfold lingerExpiry
  split <;> rfl

/-! ### The commands -/

theorem doSetUplink_samePort (f : UplinkFields) (s : State) : s.SamePort (doSetUplink f s).1 := by
  cases h : judgeSettings f with
  | bad e => rw [doSetUplink_bad h]; exact .refl s
  | good v =>
    rw [doSetUplink_good h]
    obtain ⟨⟨⟨-, -, -, -, hpass, -⟩, -⟩, hcontrol, -⟩ := State.afterSettings_frame v.1 v.2 s
    exact ⟨hcontrol, hpass⟩

theorem State.setAdmin_samePort (u : Uplink) (m : AdminMode) (s : State) : s.SamePort (s.setAdmin u m) := by
  unfold State.setAdmin
  simp only
  split
  · exact .refl s
  · split
    · exact State.settleHealth_samePort _ _ s s
    · split
      · unfold State.enableUplink
        simp only
        split
        · exact (State.settleHealth_samePort _ _ s s).trans (State.emitAtStart_samePort u _)
        · exact State.settleHealth_samePort _ _ s s
      · exact State.settleHealth_samePort _ _ s s

theorem doSetAdmin_samePort (b mode : Byte) (s : State) : s.SamePort (doSetAdmin b mode s).1 := by
  unfold doSetAdmin
  split
  · exact .refl s
  · split
    · exact .refl s
    · exact State.setAdmin_samePort _ _ s

theorem doForceRestore_samePort (b : Byte) (s : State) : s.SamePort (doForceRestore b s).1 := by
  unfold doForceRestore
  split
  · exact .refl s
  · split
    · exact State.settleHealth_samePort _ _ s s
    · exact .refl s

theorem doClearLatch_samePort (b : Byte) (s : State) : s.SamePort (doClearLatch b s).1 := by
  unfold doClearLatch
  split <;> exact .refl s

theorem doGetUplink_samePort (b : Byte) (s : State) : s.SamePort (doGetUplink b s).1 := by
  unfold doGetUplink
  split <;> exact .refl s

theorem doSetConduit_samePort (b trip : Byte) (s : State) : s.SamePort (doSetConduit b trip s).1 := by
  unfold doSetConduit
  split
  · exact .refl s
  · rename_i c _
    exact State.evaluateUsability_samePort _ _ (s.setConduit c _) _

theorem doWritePlan_samePort (f : PlanFields) (s : State) : s.SamePort (doWritePlan f s).1 := by
  unfold doWritePlan
  repeat' split
  all_goals exact .refl s

theorem doClearPlan_samePort (n : Half) (s : State) : s.SamePort (doClearPlan n s).1 := by
  unfold doClearPlan
  repeat' split
  all_goals exact .refl s

theorem doCopyActive_samePort (s : State) : s.SamePort (doCopyActive s).1 := by
  unfold doCopyActive
  split <;> exact .refl s

theorem doReadPlan_samePort (n : Half) (b : Byte) (s : State) : s.SamePort (doReadPlan n b s).1 := by
  unfold doReadPlan
  repeat' split
  all_goals exact .refl s

theorem doSwap_samePort (s : State) : s.SamePort (doSwap s).1 := by
  unfold doSwap
  split
  · exact .refl s
  · exact State.deliver_samePort _ _ { s with plans := { s.plans with swapInFlight := true } }

theorem doRebalance_samePort (t : RebalanceTarget) (s : State) : s.SamePort (doRebalance t s).1 := by
  unfold doRebalance
  repeat' split
  · exact .refl s
  · exact State.deliver_samePort _ _ s
  · exact State.deliver_samePort _ _ s

theorem doSetLane_samePort (l e p r : Byte) (s : State) : s.SamePort (doSetLane l e p r s).1 := by
  unfold doSetLane State.evaluateMarks
  repeat' split
  · exact .refl s
  · exact .refl s
  · simp only
    split
    · exact State.evaluateResume_samePort _ (s.setLane _ _)
    · exact State.evaluatePause_samePort _ (s.setLane _ _)

theorem doSetAlert_samePort (t : Byte) (l : Half) (u : Byte) (s : State) : s.SamePort (doSetAlert t l u s).1 := by
  unfold doSetAlert
  split <;> exact .refl s

end Sys2Proof.Machine
end

section
/-! The control port is sound after every step (O60). -/

namespace Sys2Proof.Machine

/-! ### The invariant but for the taking order -/

/-- What holds of the port at every moment, also between a command's arrival and its taking: the receiver, the eight
places and the command in hand. -/
def PortSound (s : State) : Prop :=
  s.control.ReceiverSound ∧ s.control.queue.length ≤ 8 ∧ s.control.frameErrors ≤ 255 ∧ InHandSound s

theorem controlSound_iff {s : State} :
    ControlSound s ↔ PortSound s ∧ (s.mayTake = true → s.control.queue = []) := by
  unfold ControlSound PortSound
  simp only [and_assoc]

theorem PortSound.of_samePort {s t : State} (hst : s.SamePort t) (h : PortSound s) : PortSound t := by
  obtain ⟨hc, hp⟩ := hst
  unfold PortSound InHandSound State.underPass at h ⊢
  rw [hc, hp]
  exact h

/-- What leaves the port and the pass in flight keeps the invariant. -/
theorem ControlSound.of_samePort {s t : State} (hst : s.SamePort t) (h : ControlSound s) : ControlSound t := by
  obtain ⟨hport, horder⟩ := controlSound_iff.1 h
  refine controlSound_iff.2 ⟨hport.of_samePort hst, ?_⟩
  unfold State.mayTake at horder ⊢
  rw [hst.1]
  exact horder

/-- R165: with a command in hand or a reply to be sent, commands may wait. -/
theorem PortSound.controlSound {s : State} (h : PortSound s)
    (hbusy : s.control.inHand ≠ none ∨ s.control.replies ≠ []) : ControlSound s :=
  controlSound_iff.2 ⟨h, fun hmay => by
    simp only [State.mayTake, Bool.and_eq_true, Option.isNone_iff_eq_none, List.isEmpty_iff] at hmay
    exact absurd hmay (not_and_or.2 hbusy)⟩

theorem inHandSound_iff {s : State} : InHandSound s ↔ ∀ q, s.control.inHand = some q →
    (∃ n g, q.command = .readGroup n ∧ judgeGroup n = some g ∧ s.underPass g = true)
      ∨ (q.command = .reset ∧ s.control.replies ≠ []) := by
  unfold InHandSound
  cases s.control.inHand <;> simp

/-- With nothing in hand, the command in hand is no concern. -/
theorem inHandSound_of_none {s : State} (h : s.control.inHand = none) : InHandSound s :=
  inHandSound_iff.2 fun _ hq => absurd (h.symm.trans hq) nofun

/-- R166: a reply joins the list, behind which commands may wait. -/
theorem PortSound.reply {s : State} (h : PortSound s) (type tag : Byte) (body : ReplyBody) :
    ControlSound (s.reply type tag body) := by
  obtain ⟨hrx, hqueue, herrors, hhand⟩ := h
  have hlist : (s.reply type tag body).control.replies ≠ [] := List.append_ne_nil_of_right_ne_nil _ (by simp)
  refine PortSound.controlSound ⟨hrx, hqueue, herrors, inHandSound_iff.2 fun q hq => ?_⟩ (.inr hlist)
  exact (inHandSound_iff.1 hhand q hq).imp id fun hreset => ⟨hreset.1, hlist⟩

/-! ### Commands taken -/

/-- R102: a READ-GROUP is answered, or stays in hand for the pass on its group. -/
theorem takeReadGroup_controlSound (tag : Byte) (n : Half) {s : State} (h : PortSound s) :
    ControlSound (takeReadGroup tag n s) := by
  unfold takeReadGroup
  split
  · exact h.reply _ _ _
  · rename_i g hg
    split
    · rename_i hpass
      obtain ⟨hrx, hqueue, herrors, -⟩ := h
      exact PortSound.controlSound ⟨hrx, hqueue, herrors, .inl ⟨n, g, rfl, hg, hpass⟩⟩ (.inl nofun)
    · exact h.reply _ _ _

/-- R173: a RESET stays in hand while its reply is sent. -/
theorem takeReset_controlSound (tag : Byte) {s : State} (h : PortSound s) : ControlSound (takeReset tag s) := by
  obtain ⟨hrx, hqueue, herrors, -⟩ := h
  refine PortSound.controlSound ⟨hrx, hqueue, herrors, .inr ⟨rfl, ?_⟩⟩ (.inl nofun)
  exact List.append_ne_nil_of_right_ne_nil _ (by simp)

/-- R165: a command taken is answered, or stays in hand. -/
theorem takeCommand_controlSound (tag : Byte) (c : Command) {s : State} (h : PortSound s) :
    ControlSound (takeCommand tag c s) := by
  have answered : ∀ {r : State × ReplyBody}, s.SamePort r.1 → ControlSound (finish c.typeCode tag r) := fun hr =>
    (h.of_samePort hr).reply _ _ _
  cases c with
  | identify => exact h.reply _ _ _
  | getStatus =>
    obtain ⟨hrx, hqueue, -, hhand⟩ := h
    exact PortSound.reply (s := (doGetStatus s).1) ⟨hrx, hqueue, Nat.zero_le _, hhand⟩ _ _ _
  | setTime t => exact answered (r := doSetTime t s) (.refl s)
  | setUplink f => exact answered (doSetUplink_samePort f s)
  | getUplink u => exact answered (doGetUplink_samePort u s)
  | setAdmin u m => exact answered (doSetAdmin_samePort u m s)
  | forceRestore u => exact answered (doForceRestore_samePort u s)
  | clearLatch u => exact answered (doClearLatch_samePort u s)
  | setConduit d t => exact answered (doSetConduit_samePort d t s)
  | writePlan f => exact answered (doWritePlan_samePort f s)
  | clearPlan g => exact answered (doClearPlan_samePort g s)
  | copyActive => exact answered (doCopyActive_samePort s)
  | readPlan g b => exact answered (doReadPlan_samePort g b s)
  | swap => exact answered (doSwap_samePort s)
  | readGroup g => exact takeReadGroup_controlSound tag g h
  | rebalance t => exact answered (doRebalance_samePort t s)
  | setLane l e p r => exact answered (doSetLane_samePort l e p r s)
  | setFwdlink t => exact answered (r := doSetFwdlink t s) (.refl s)
  | setAlert t l u => exact answered (doSetAlert_samePort t l u s)
  | fetchEvents n => exact answered (r := doFetchEvents n s) (.refl s)
  | reset => exact takeReset_controlSound tag h

/-- R165: once the head has been taken, if it may be, none waits that may be taken. -/
theorem PortSound.takeNext {s : State} (h : PortSound s) : ControlSound s.takeNext := by
  unfold State.takeNext
  split
  · split
    · rename_i hqueue
      exact controlSound_iff.2 ⟨h, fun _ => hqueue⟩
    · rename_i q rest hqueue
      obtain ⟨hrx, hlength, herrors, hhand⟩ := h
      rw [hqueue, List.length_cons] at hlength
      exact takeCommand_controlSound _ _ ⟨hrx, Nat.le_of_succ_le hlength, herrors, hhand⟩
  · rename_i hbusy
    exact controlSound_iff.2 ⟨h, fun hmay => absurd hmay hbusy⟩

/-- R164: a command offered finds a place, or is answered FULL. -/
theorem receiveCommand_controlSound (tag : Byte) (c : Command) {s : State} (h : PortSound s) :
    ControlSound (receiveCommand tag c s) := by
  unfold receiveCommand
  split
  · rename_i hroom
    obtain ⟨hrx, -, herrors, hhand⟩ := h
    refine PortSound.takeNext ⟨hrx, ?_, herrors, hhand⟩
    rw [List.length_append]
    exact hroom
  · exact h.reply _ _ _

/-! ### The receiver (R161, R162) -/

/-- What the receiver writes, where it leaves its frame sound. -/
theorem ControlSound.received {s : State} (h : ControlSound s) {rx : RxState} {frame : List Byte} {errors : Nat}
    (hrx : ({ s.control with rx, frame, frameErrors := errors } : ControlState).ReceiverSound)
    (herrors : errors ≤ 255) :
    ControlSound { s with control := { s.control with rx, frame, frameErrors := errors } } := by
  obtain ⟨-, hqueue, -, hhand, horder⟩ := h
  exact ⟨hrx, hqueue, herrors, hhand, horder⟩

theorem ControlSound.discardFrame {s : State} (h : ControlSound s) : ControlSound s.discardFrame :=
  h.received (rx := .hunting) (frame := []) rfl (saturating_le 255 _)

theorem ControlSound.keep {s : State} (h : ControlSound s) {rx : RxState} {frame : List Byte}
    (hrx : ({ s.control with rx, frame } : ControlState).ReceiverSound) : ControlSound (s.keep rx frame) := by
  obtain ⟨-, -, herrors, -⟩ := id h
  exact h.received hrx herrors

theorem receiveWhole_controlSound (type tag : Byte) (payload : List Byte) {s : State} (h : ControlSound s) :
    ControlSound (receiveWhole type tag payload s) := by
  obtain ⟨hport, -⟩ := controlSound_iff.1 h
  unfold receiveWhole
  split
  · exact hport.reply _ _ _
  · exact hport.reply _ _ _
  · exact receiveCommand_controlSound _ _ hport

theorem judgeFrame_controlSound (frame : List Byte) {s : State} (h : ControlSound s) :
    ControlSound (judgeFrame frame s) := by
  have hunt : ControlSound s.hunt := h.keep (rx := .hunting) (frame := []) rfl
  unfold judgeFrame
  simp only
  repeat' split
  · exact receiveWhole_controlSound _ _ _ hunt
  all_goals exact h.discardFrame

/-- R161: a byte that joins a frame with its two length bytes leaves the length the frame gives. -/
theorem frameLength_append {frame : List Byte} (h : 2 ≤ frame.length) (b : Byte) :
    frameLength (frame ++ [b]) = frameLength frame := by
  match frame, h with
  | _ :: _ :: _, _ => rfl

/-- R161: a byte taken, by the receiver's state. -/
theorem takeByte_controlSound (b : Byte) {s : State} (h : ControlSound s) : ControlSound (takeByte b s) := by
  obtain ⟨hrx, -⟩ := id h
  have hlength : (s.control.frame ++ [b]).length = s.control.frame.length + 1 := by simp
  unfold takeByte
  cases hstate : s.control.rx <;> unfold ControlState.ReceiverSound at hrx <;> simp only [hstate] at hrx ⊢
  case hunting =>
    split
    · exact h.keep (by simp [ControlState.ReceiverSound])
    · exact h
  case length =>
    split
    · rename_i hshort
      exact h.keep hshort
    · split
      · rename_i hlong hbounds
        refine h.keep ⟨hbounds.1, hbounds.2, ?_, ?_⟩ <;> dsimp only <;> omega
      · exact h.discardFrame
  case body =>
    obtain ⟨hmin, hmax, htwo, hshort⟩ := hrx
    have hsame := frameLength_append htwo b
    refine h.keep ?_
    split
    all_goals refine ⟨?_, ?_, ?_, ?_⟩ <;> dsimp only <;> omega
  case check =>
    obtain ⟨hmin, hmax, hbody, hshort⟩ := hrx
    have hsame := frameLength_append (by omega : 2 ≤ s.control.frame.length) b
    split
    · refine h.keep ⟨?_, ?_, ?_, ?_⟩ <;> dsimp only <;> omega
    · exact judgeFrame_controlSound _ h

theorem takeBytes_controlSound (bs : List Byte) {s : State} (h : ControlSound s) : ControlSound (takeBytes bs s) := by
  unfold takeBytes
  induction bs generalizing s with
  | nil => exact h
  | cons b bs ih => exact ih (takeByte_controlSound b h)

/-! ### Replies sent (R166, R173) -/

theorem State.toReset_controlSound (s : State) (held : Bool) : ControlSound (s.toReset held) :=
  ⟨rfl, Nat.zero_le _, Nat.zero_le _, trivial, fun _ => rfl⟩

/-- R166, R173: the end of a reply resets the part if the reply was RESET's; else a READ-GROUP at most is in hand, and
the next command is taken if it may be. -/
theorem replySent_controlSound {s : State} (h : ControlSound s) : ControlSound (replySent s) := by
  obtain ⟨⟨hrx, hqueue, herrors, hhand⟩, -⟩ := controlSound_iff.1 h
  unfold replySent
  split
  · exact h
  · simp only
    split
    · exact State.toReset_controlSound _ false
    · rename_i hother
      refine PortSound.takeNext ⟨hrx, hqueue, herrors, inHandSound_iff.2 fun ⟨tag, command⟩ hq => .inl ?_⟩
      obtain hread | ⟨hreset, -⟩ := inHandSound_iff.1 hhand _ hq
      · exact hread
      · exact absurd (hreset ▸ hq) (hother tag)

/-! ### The pass (R100, R102) -/

/-- R102: a READ-GROUP in hand waits for the pass in flight. -/
theorem InHandSound.readGroup {s : State} (h : InHandSound s) {tag : Byte} {n : Half}
    (hh : s.control.inHand = some { tag, command := .readGroup n }) :
    ∃ p, s.sweep.pass = some p ∧ judgeGroup n = some p.group := by
  obtain ⟨_, g, hc, hg, hpass⟩ | ⟨hreset, -⟩ := inHandSound_iff.1 h _ hh
  · cases hc
    unfold State.underPass at hpass
    split at hpass
    · rename_i p hp
      rw [decide_eq_true_eq] at hpass
      exact ⟨p, hp, hpass ▸ hg⟩
    · cases hpass
  · cases hreset

/-- R173: a command in hand that is no READ-GROUP does not look at the pass. -/
theorem InHandSound.of_other {s t : State} (h : InHandSound s) (hc : t.control = s.control)
    (hother : ∀ tag n, s.control.inHand ≠ some { tag, command := .readGroup n }) : InHandSound t := by
  rw [inHandSound_iff, hc]
  refine fun ⟨tag, command⟩ hq => .inr ?_
  obtain ⟨n, _, hread, -⟩ | hreset := inHandSound_iff.1 h _ hq
  · exact absurd (hread ▸ hq) (hother tag n)
  · exact hreset

/-- R100: a pass begins with the engine IDLE, so no READ-GROUP is in hand. -/
theorem passBegin_controlSound {s : State} (h : ControlSound s) : ControlSound (passBegin s) := by
  obtain e | ⟨g, f, hidle, -, e⟩ := passBegin_cases s
  · rwa [e]
  · obtain ⟨hrx, hqueue, herrors, hhand, horder⟩ := h
    rw [e]
    refine ⟨hrx, hqueue, herrors, hhand.of_other rfl fun tag n hh => ?_, horder⟩
    obtain ⟨p, hp, -⟩ := hhand.readGroup hh
    exact absurd (hidle.symm.trans hp) nofun

/-- R105: a completion leaves the control port; R102's answer follows it. -/
theorem State.completePass_control (p : PassRecord) (s : State) : (s.completePass p).control = s.control := by
  obtain ⟨_, _, _, e, -⟩ := s.completePass_eq p
  rw [e]
  rfl

/-- R102: the two outcomes of a release: the READ-GROUP in hand is not for this group, or it is answered. -/
theorem State.releaseReadGroup_other {s : State} (g : Group)
    (h : ∀ tag n, s.control.inHand = some { tag, command := .readGroup n } → judgeGroup n ≠ some g) :
    s.releaseReadGroup g = s := by
  unfold State.releaseReadGroup
  split
  · rename_i tag n hh
    exact if_neg (h tag n hh)
  · rfl

theorem State.releaseReadGroup_held {s : State} {g : Group} {tag : Byte} {n : Half}
    (hh : s.control.inHand = some { tag, command := .readGroup n }) (hn : judgeGroup n = some g) :
    s.releaseReadGroup g = ({ s with control := { s.control with inHand := none } } : State).reply 0x25#8 tag
      (s.readGroupReply g) := by
  simp only [State.releaseReadGroup, hh, hn, if_true]
  rfl

/-- R102: a completion answers the READ-GROUP in hand, which waited for its pass. -/
theorem passComplete_controlSound {s : State} (h : ControlSound s) : ControlSound (passComplete s) := by
  obtain ⟨hrx, hqueue, herrors, hhand, horder⟩ := id h
  unfold passComplete
  split
  · rename_i p hp
    have hcontrol := s.completePass_control p
    by_cases hread : ∃ tag n, s.control.inHand = some { tag, command := .readGroup n }
    · obtain ⟨tag, n, hh⟩ := hread
      obtain ⟨p', hp', hn⟩ := hhand.readGroup hh
      cases hp.symm.trans hp'
      rw [State.releaseReadGroup_held (hcontrol ▸ hh) hn]
      refine PortSound.reply ⟨?_, ?_, ?_, inHandSound_of_none rfl⟩ _ _ _ <;> rw [hcontrol] <;> assumption
    · simp only [not_exists] at hread
      rw [State.releaseReadGroup_other _ fun tag n hh => absurd (hcontrol ▸ hh) (hread tag n)]
      unfold ControlSound State.mayTake
      rw [hcontrol]
      exact ⟨hrx, hqueue, herrors, hhand.of_other hcontrol hread, horder⟩
  · exact h

/-! ### The step -/

/-- Every row of the table keeps the control port sound. -/
theorem exec_controlSound (i : Instr) {s t : State} (h : ControlSound s) (ht : exec i s = .next t) :
    ControlSound t := by
  have elsewhere : ∀ {f : State → State}, s.SamePort (f s) → whenRunning s f = .next t → ControlSound t := fun hf =>
    whenRunning_kept (h.of_samePort hf) h
  have command : ∀ tag c, whenRunning s (receiveCommand tag c) = .next t → ControlSound t := fun tag c =>
    whenRunning_kept (receiveCommand_controlSound tag c (controlSound_iff.1 h).1) h
  cases i with
  | losAssert u => cases ht; exact h.of_samePort (losEdge_samePort u true s)
  | losDeassert u => cases ht; exact h.of_samePort (losEdge_samePort u false s)
  | lossQualifyExpiry u => exact elsewhere (lossQualifyExpiry_samePort u s) ht
  | lightQualifyExpiry u => exact elsewhere (lightQualifyExpiry_samePort u s) ht
  | holdOffExpiry u => exact elsewhere (holdOffExpiry_samePort u s) ht
  | waitToRestoreExpiry u => exact elsewhere (waitToRestoreExpiry_samePort u s) ht
  | probeEmission u => exact elsewhere (probeEmission_samePort u s) ht
  | continuityDeadlineExpiry u => exact elsewhere (continuityDeadlineExpiry_samePort u s) ht
  | probeInReceived r => exact elsewhere (recordArrival_samePort r s) ht
  | syncReceived r => exact elsewhere (recordArrival_samePort r s) ht
  | lookupReqReceived r => exact elsewhere (recordArrival_samePort r s) ht
  | faultyRecordReceived r =>
    cases r with
    | some r => exact elsewhere (recordArrival_samePort r s) ht
    | none => exact elsewhere (f := State.countHeaderError) (.refl s) ht
  | silenceExpiry => exact elsewhere (silenceExpiry_samePort s) ht
  | serviceBegin => exact elsewhere (serviceBegin_samePort s) ht
  | recordTime => exact elsewhere (recordTime_samePort s) ht
  | passBegin => exact whenRunning_kept (passBegin_controlSound h) h ht
  | passComplete => exact whenRunning_kept (passComplete_controlSound h) h ht
  | lingerExpiry => exact elsewhere (lingerExpiry_samePort s) ht
  | frameReceived body check => exact whenRunning_kept (takeBytes_controlSound _ h) h ht
  | replySent => exact whenRunning_kept (replySent_controlSound h) h ht
  | identify tag => exact command tag .identify ht
  | getStatus tag => exact command tag .getStatus ht
  | setTime tag n => exact command tag (.setTime n) ht
  | setUplink tag f => exact command tag (.setUplink f) ht
  | getUplink tag u => exact command tag (.getUplink u) ht
  | setAdmin tag u m => exact command tag (.setAdmin u m) ht
  | forceRestore tag u => exact command tag (.forceRestore u) ht
  | clearLatch tag u => exact command tag (.clearLatch u) ht
  | setConduit tag c n => exact command tag (.setConduit c n) ht
  | writePlan tag f => exact command tag (.writePlan f) ht
  | clearPlan tag g => exact command tag (.clearPlan g) ht
  | copyActive tag => exact command tag .copyActive ht
  | readPlan tag g b => exact command tag (.readPlan g b) ht
  | swap tag => exact command tag .swap ht
  | readGroup tag g => exact command tag (.readGroup g) ht
  | rebalance tag x => exact command tag (.rebalance x) ht
  | setLane tag l e p r => exact command tag (.setLane l e p r) ht
  | setFwdlink tag n => exact command tag (.setFwdlink n) ht
  | setAlert tag n l u => exact command tag (.setAlert n l u) ht
  | fetchEvents tag n => exact command tag (.fetchEvents n) ht
  | reset tag => exact command tag .reset ht
  | resetInputAssert => cases ht; exact State.toReset_controlSound _ true
  | resetInputRelease =>
    cases ht
    split
    · exact h.of_samePort (.refl s)
    · exact h
  | controlByteTaken b => exact whenRunning_kept (takeByte_controlSound b h) h ht

/-- Settles O60: each row of the table, and the tick of an empty queue, which is no concern of the port. -/
theorem stepsKeepControlSound : Obligations.StepsKeepControlSound := by
  intro s t h ht
  unfold step at ht
  split at ht
  · cases ht
    exact h.of_samePort ⟨State.tick_control s, by rw [State.tick_sweep]⟩
  · rename_i rest _
    exact exec_controlSound _ (h.of_samePort (t := { s with pending := rest }) (.refl s)) ht

end Sys2Proof.Machine
end

section
/-! REBALANCE (O29). -/

namespace Sys2Proof.Machine

theorem exec_rebalance {s : State} (hs : s.PortFree) (tag : Byte) (x : RebalanceTarget) :
    exec (.rebalance tag x) s = .next (finish 0x26#8 tag (doRebalance x s)) := exec_rowOf hs tag (.rebalance x)

theorem doRebalance_group {n : BitVec 15} {g : Group} (h : n.toNat = g.val) (s : State) :
    doRebalance (.group n) s = (s.deliver (fun x => x = g) { replan := false, rebalance := true },
      .ok false [flagByte (s.servedPlan g).planned]) := by
  have hn : judgeGroup (n.zeroExtend 16) = some g :=
    judgeGroup_eq_some.2 ((BitVec.toNat_setWidth_of_le (by omega)).trans h)
  simp only [doRebalance, hn]

theorem doRebalance_bad {n : BitVec 15} (h : 1023 < n.toNat) (s : State) :
    doRebalance (.group n) s = (s, .invalid .group none) := by
  have hn : judgeGroup (n.zeroExtend 16) = none :=
    judgeGroup_eq_none.2 (h.trans_eq (BitVec.toNat_setWidth_of_le (by omega)).symm)
  simp only [doRebalance, hn, refuse]

/-- R97: a rebalance mark keeps the replan flag an entry had. -/
theorem DirtyFlags.merge_rebalance (old : Option DirtyFlags) :
    ∃ rp, DirtyFlags.merge old { replan := false, rebalance := true } = { replan := rp, rebalance := true }
      ∧ (rp = true ↔ ∃ e, old = some e ∧ e.replan = true) := by
  cases old with
  | none => exact ⟨false, rfl, iff_of_false nofun nofun⟩
  | some e => exact ⟨e.replan, by simp [DirtyFlags.merge], by simp⟩

/-- R97: what a rebalance mark leaves of a group it falls on. -/
theorem State.find_deliver_rebalance {s : State} {marked : Group → Bool} {g : Group} (h : marked g = true) :
    ∃ rp, (rp = true ↔ s.replanQueued g) ∧
      GroupMap.find (s.deliver marked { replan := false, rebalance := true }).sweep.dirty g =
        some { replan := rp, rebalance := true } := by
  obtain ⟨rp, e, hrp⟩ := DirtyFlags.merge_rebalance (GroupMap.find s.sweep.dirty g)
  exact ⟨rp, hrp, by rw [State.find_deliver, if_pos h, e]⟩

/-- A delivery with its reply: the marks, the episode and the reply, and nothing else. -/
theorem State.finish_deliver (s : State) (marked : Group → Bool) (f : DirtyFlags) (type tag : Byte)
    (body : ReplyBody) : ∃ t, finish type tag (s.deliver marked f, body) = t
      ∧ t = { s with
          control := t.control, sweep := { s.sweep with dirty := t.sweep.dirty, episode := t.sweep.episode } }
      ∧ t.sweep.dirty = (s.deliver marked f).sweep.dirty ∧ t.sweep.episode = (s.deliver marked f).sweep.episode
      ∧ s.Answers t type tag body := by
  have hframe := State.deliver_frame marked f s
  have hanswers := State.answers_finish type tag body (State.deliver_control marked f s)
  generalize s.deliver marked f = t at hframe hanswers ⊢
  exact ⟨_, rfl, congrArg (fun r : State => { r with control := (finish type tag (t, body)).control }) hframe, rfl,
    rfl, hanswers⟩

theorem Plan.planned_iff {p : Plan} : p.planned = true ↔ p.members ≠ [] := decide_eq_true_iff

/-- Settles O29: one delivery of rebalance marks, to the group named or to every group planned where it is served. -/
theorem rebalanceMarksItsGroups : Obligations.RebalanceMarksItsGroups := by
  intro tag s hs opened same marked
  refine ⟨fun n g hn => ?_, fun n hn => replies_only (by rw [exec_rebalance hs, doRebalance_bad hn]), ?_⟩
  · obtain ⟨t, ht, hframe, hdirty, hepisode, hanswers⟩ := s.finish_deliver (fun x => x = g)
      { replan := false, rebalance := true } 0x26#8 tag (.ok false [flagByte (s.servedPlan g).planned])
    refine ⟨t, by rw [exec_rebalance hs, doRebalance_group hn, ht], hframe, ?_, fun k hk => ?_, ?_, ?_⟩
    · show ∃ rp, _ ∧ GroupMap.find t.sweep.dirty g = _
      rw [hdirty]
      exact State.find_deliver_rebalance (decide_eq_true rfl)
    · rw [hdirty, State.find_deliver, if_neg (by simpa using hk)]
    · have hnew : s.makesNew (fun x => x = g) = true ↔ GroupMap.find s.sweep.dirty g = none := by
        simp [State.makesNew_iff]
      rw [hepisode]
      cases he : s.sweep.episode with
      | some e => rw [State.deliver_episode_open he, if_neg (by simp)]
      | none =>
        rw [State.deliver_episode_closed he]
        simp only [hnew, true_and]
        rfl
    · have hflag : flagByte (s.servedPlan g).planned = if (s.servedPlan g).members = [] then 0#8 else 1#8 := by
        simp only [flagByte, Plan.planned_iff, ne_eq, ite_not]
      exact hflag ▸ hanswers
  · have hnew := s.makesNew_iff fun g => (s.servedPlan g).planned
    simp only [Plan.planned_iff] at hnew
    obtain ⟨t, ht, hframe, hdirty, hepisode, hanswers⟩ := s.finish_deliver (fun g => (s.servedPlan g).planned)
      { replan := false, rebalance := true } 0x26#8 tag
      (.ok false (be16 ((List.finRange 1024).filter fun g => (s.servedPlan g).planned).length))
    refine ⟨t, (exec_rebalance hs tag .all).trans (congrArg _ ht), hframe, fun g hg => ?_, fun g hg => ?_,
      fun e he => ?_, fun he hg => ?_, fun he hall => ?_, hanswers⟩
    · show ∃ rp, _ ∧ GroupMap.find t.sweep.dirty g = _
      rw [hdirty]
      exact State.find_deliver_rebalance (Plan.planned_iff.2 hg)
    · rw [hdirty, State.find_deliver, if_neg fun h => Plan.planned_iff.1 h hg]
    · rw [hepisode, State.deliver_episode_open he]
    · rw [hepisode, State.deliver_episode_closed he, if_pos (hnew.2 hg)]
    · rw [hepisode, State.deliver_episode_closed he, if_neg fun h => ?_]
      obtain ⟨g, hg, hnone⟩ := hnew.1 h
      exact hall g hg hnone

end Sys2Proof.Machine
end

section
/-! A pass begun (O30). -/

namespace Sys2Proof.Machine

/-- In a store with rising group numbers, the first entry that meets a condition on its number is the lowest that does. -/
theorem GroupMap.find?_of_least {α : Type} {m : GroupMap α} (hs : GroupMap.sorted m) {P : Group → Bool} {g : Group}
    {x : α} (hg : GroupMap.find m g = some x) (hP : P g = true)
    (hleast : ∀ k y, GroupMap.find m k = some y → P k = true → g ≤ k) :
    List.find? (fun e => P e.1) m = some (g, x) := by
  have hmem := GroupMap.mem_of_find hg
  cases hfirst : List.find? (fun e => P e.1) m with
  | none => exact absurd hP (List.find?_eq_none.1 hfirst _ hmem)
  | some e =>
    obtain ⟨he, before, after, rfl, hbefore⟩ := List.find?_eq_some_iff_append.1 hfirst
    have hle : g ≤ e.1 := hleast e.1 e.2 (GroupMap.find_of_mem hs (by simp)) he
    obtain hin | rfl | hin : (g, x) ∈ before ∨ (g, x) = e ∨ (g, x) ∈ after := by simpa using hmem
    · exact absurd hP (by simpa using hbefore _ hin)
    · rfl
    · have hlt : e.1 < g := (List.pairwise_cons.1 (List.pairwise_append.1 hs).2.1).1 _ hin
      exact absurd hle (not_le.2 hlt)

/-- R99: the entry at or above the cursor with the lowest number is chosen. -/
theorem SweepState.choose_of_above {w : SweepState} (hs : GroupMap.sorted w.dirty) {g : Group} {f : DirtyFlags}
    (hg : GroupMap.find w.dirty g = some f) (hcursor : w.cursor ≤ g)
    (hleast : ∀ k x, GroupMap.find w.dirty k = some x → w.cursor ≤ k → g ≤ k) : w.choose = some (g, f) := by
  unfold SweepState.choose
  rw [GroupMap.find?_of_least (P := fun k => decide (w.cursor ≤ k)) hs hg (by simpa using hcursor)
    fun k x hk habove => hleast k x hk (by simpa using habove)]

/-- R99: with none there, the lowest of all. -/
theorem SweepState.choose_of_wrap {w : SweepState} (hs : GroupMap.sorted w.dirty) {g : Group} {f : DirtyFlags}
    (hg : GroupMap.find w.dirty g = some f)
    (hleast : ∀ k x, GroupMap.find w.dirty k = some x → k < w.cursor ∧ g ≤ k) : w.choose = some (g, f) := by
  have hnone : List.find? (fun e => decide (w.cursor ≤ e.1)) w.dirty = none := by
    refine List.find?_eq_none.2 fun e he => ?_
    simpa using (hleast e.1 e.2 (GroupMap.find_of_mem hs he)).1
  have hfirst := GroupMap.find?_of_least (P := fun _ => true) hs hg rfl fun k x hk _ => (hleast k x hk).2
  unfold SweepState.choose
  rw [hnone, ← hfirst]
  cases w.dirty <;> rfl

theorem passBegin_of_choose {s : State} {g : Group} {f : DirtyFlags} (hidle : s.sweep.pass = none)
    (h : s.sweep.choose = some (g, f)) : passBegin s = { s with sweep := { s.sweep with
      dirty := GroupMap.erase g s.sweep.dirty,
      pass := some { group := g, flags := f, snapshot := s.usableFlags } } } := by
  simp only [passBegin, hidle, h]

/-- Log entry 1: with nothing marked, or a pass in flight, no pass begins. -/
theorem passBegin_of_none {s : State} (h : s.sweep.dirty = [] ∨ s.sweep.pass ≠ none) : passBegin s = s := by
  obtain e | ⟨g, f, hidle, hmem, -⟩ := passBegin_cases s
  · exact e
  · obtain hd | hpass := h
    · rw [hd] at hmem
      cases hmem
    · exact absurd hidle hpass

theorem exec_passBegin {s : State} (hr : s.resetHeld = false) : exec .passBegin s = .next (passBegin s) :=
  whenRunning_of_released hr passBegin

/-- Settles O30: the entry chosen is the lowest of those that come first in the cursor's order. -/
theorem passBeginsAtTheCursor : Obligations.PassBeginsAtTheCursor := by
  intro s hr hs listed
  refine ⟨fun g f hidle hg hfirst => ?_, fun h => ?_⟩
  · have hchoose : s.sweep.choose = some (g, f) := by
      obtain ⟨hcursor, hleast⟩ | hleast := hfirst
      · exact SweepState.choose_of_above hs hg hcursor fun k x hk => hleast k ⟨x, hk⟩
      · exact SweepState.choose_of_wrap hs hg fun k x hk => hleast k ⟨x, hk⟩
    refine ⟨_, (exec_passBegin hr).trans (by rw [passBegin_of_choose hidle hchoose]), rfl, fun k => ?_⟩
    rw [GroupMap.find_erase]
    simp only [eq_comm]
  · rw [exec_passBegin hr, passBegin_of_none h]

end Sys2Proof.Machine
end

section
/-! SUPPORT. What a completion writes into its group, the sweep engine and the Plan Store, and the events it hands to
the queue (R103 to R114). -/

namespace Sys2Proof.Machine

/-! ### The group (R103, R107 to R111) -/

theorem GroupBuckets.array_setArray_other (x : GroupBuckets) (b : Bank) (a : BucketArray) :
    (x.setArray b a).array b.other = x.array b.other ∧ (x.setArray b.other a).array b = x.array b := by
  cases b <;> exact ⟨rfl, rfl⟩

theorem GroupBuckets.setArray_unplannedHit (x : GroupBuckets) (b : Bank) (a : BucketArray) :
    (x.setArray b a).unplannedHit = x.unplannedHit := by
  cases b <;> rfl

theorem Plan.planned_eq_false {p : Plan} (h : p.members = []) : p.planned = false := decide_eq_false (not_not.2 h)

section Result
variable {s : State} {p : PassRecord}

theorem State.passPlan_ordinary (h : p.flags.replan = false) : s.passPlan p = s.servedPlan p.group := by
  simp only [State.passPlan, h, Bool.false_eq_true, if_false]

theorem State.passPlan_replan (h : p.flags.replan = true) :
    s.passPlan p = s.planIn (s.group p.group).selector.other p.group := by
  simp only [State.passPlan, h, if_true]

/-- R103: an ordinary pass writes nothing to an unplanned group. -/
theorem State.passResult_ordinary_unplanned (h : p.flags.replan = false)
    (hplan : (s.servedPlan p.group).members = []) : s.passResult p = s.group p.group := by
  simp only [State.passResult, State.passPlan_ordinary h, ordinaryResult, h, Plan.planned_eq_false hplan,
    Bool.false_eq_true, if_false]

/-- R103: to a planned one, the served array and the evacuated flag. -/
theorem State.passResult_ordinary_planned (h : p.flags.replan = false)
    (hplan : (s.servedPlan p.group).members ≠ []) : s.passResult p =
      { (s.group p.group).setArray (s.group p.group).selector
          (passArray (s.servedPlan p.group) p.flags.rebalance p.snapshot (s.servedArray p.group)) with
        evacuated := passEvacuated (s.servedPlan p.group) p.snapshot } := by
  simp only [State.passResult, State.passPlan_ordinary h, ordinaryResult, h, Plan.planned_iff.2 hplan,
    Bool.false_eq_true, if_false, if_true]
  rfl

/-- R108: a replan onto an unplanned record clears the new array and the evacuated flag. -/
theorem State.passResult_replan_unplanned (h : p.flags.replan = true) (hplan : (s.passPlan p).members = []) :
    s.passResult p =
      { (s.group p.group).setArray (s.group p.group).selector.other BucketArray.cleared with
        selector := (s.group p.group).selector.other, evacuated := false } := by
  simp only [State.passResult, replanResult, h, Plan.planned_eq_false hplan, Bool.not_false, if_true]

/-- R109 to R111: onto a planned one the array starts from the old one for an equal member list, else from home. -/
theorem State.passResult_replan_planned (h : p.flags.replan = true) (hplan : (s.passPlan p).members ≠ []) :
    s.passResult p =
      { (s.group p.group).setArray (s.group p.group).selector.other
          (passArray (s.passPlan p) p.flags.rebalance p.snapshot
            (if (s.passPlan p).members = (s.servedPlan p.group).members then s.servedArray p.group
              else homeArray (s.passPlan p))) with
        selector := (s.group p.group).selector.other,
        evacuated := passEvacuated (s.passPlan p) p.snapshot, unplannedHit := false } := by
  simp only [State.passResult, replanResult, h, Plan.planned_iff.2 hplan, Bool.not_true, Bool.false_eq_true,
    if_false, if_true]
  rfl

end Result

/-! ### The exchange of the banks (R77, R112) -/

/-- R112: the banks are exchanged exactly when a replan in a swap leaves no group on the active bank. -/
theorem State.completePass_plans (s : State) (p : PassRecord) :
    ((p.flags.replan = true ∧ s.plans.swapInFlight = true
        ∧ ∀ k, ((s.completePass p).group k).selector ≠ s.plans.active) →
      (s.completePass p).plans = s.plans.exchange)
    ∧ (¬ (p.flags.replan = true ∧ s.plans.swapInFlight = true
        ∧ ∀ k, ((s.completePass p).group k).selector ≠ s.plans.active) →
      (s.completePass p).plans = s.plans) := by
  obtain ⟨plans, episode, events, e, hplans⟩ := s.completePass_eq p
  have hgroup : ∀ k, (s.completePass p).group k = (s.setGroup p.group (s.passResult p)).group k :=
    State.group_congr (by rw [e])
  have hstore : (s.completePass p).plans = plans := by rw [e]
  simp only [hgroup, hstore]
  have hleft : s.plans.swapInFlight = true → ((s.setGroup p.group (s.passResult p)).replansRemaining = 0 ↔
      ∀ k, ((s.setGroup p.group (s.passResult p)).group k).selector ≠ s.plans.active) :=
    State.replansRemaining_eq_zero (s := s.setGroup p.group (s.passResult p))
  obtain ⟨rfl, hreplan, hflight, hnone⟩ | ⟨rfl, hsome⟩ := hplans
  · exact ⟨fun _ => rfl, fun h => absurd ⟨hreplan, hflight, (hleft hflight).1 hnone⟩ h⟩
  · refine ⟨fun ⟨hreplan, hflight, hall⟩ => ?_, fun _ => rfl⟩
    exact absurd ((hleft hflight).2 hall) (hsome hreplan hflight)

/-! ### The row -/

theorem exec_passComplete {s : State} (hr : s.resetHeld = false) : exec .passComplete s = .next (passComplete s) :=
  whenRunning_of_released hr passComplete

/-- R102: a release writes the control port alone. -/
theorem State.releaseReadGroup_frame (g : Group) (s : State) :
    s.releaseReadGroup g = { s with control := (s.releaseReadGroup g).control } := by
  unfold State.releaseReadGroup
  repeat' split
  all_goals rfl

/-- R105, R102: the row is the completion, with the control port that the release of a READ-GROUP leaves. -/
theorem exec_passComplete_of_pass {s : State} {p : PassRecord} (hr : s.resetHeld = false)
    (hp : s.sweep.pass = some p) : exec .passComplete s = .next { s.completePass p with
      control := ((s.completePass p).releaseReadGroup p.group).control } := by
  have hrow : passComplete s = (s.completePass p).releaseReadGroup p.group := by simp only [passComplete, hp]
  rw [exec_passComplete hr, hrow, ← State.releaseReadGroup_frame]

/-- Log entry 1: with the engine IDLE nothing completes. -/
theorem passComplete_of_idle {s : State} (h : s.sweep.pass = none) : passComplete s = s := by
  simp only [passComplete, h]

/-! ### The events (R105, R106, R112, R114) -/

/-- Of a list of at most `n` members, those that `keep` holds for, counted by their places. -/
theorem countP_finRange_getElem? {α : Type} (keep : α → Bool) {l : List α} {n : Nat} (h : l.length ≤ n) :
    (List.finRange n).countP (fun k => (l[k.val]?).any keep) = l.countP keep := by
  induction l generalizing n with
  | nil => simp
  | cons a l ih =>
    cases n with
    | zero => simp at h
    | succ n =>
      rw [List.finRange_succ, List.countP_cons, List.countP_map, List.countP_cons, ← ih (Nat.le_of_succ_le_succ h)]
      rfl

/-- R90: the usable set has a slot for each usable member. -/
theorem Plan.usableSet_length {p : Plan} (h : p.members.length ≤ 8) (snapshot : UplinkSet) :
    (p.usableSet snapshot).length = p.members.countP fun m => snapshot.get m.uplink := by
  rw [← countP_finRange_getElem? _ h]
  unfold Plan.usableSet Plan.weighted Plan.member
  rw [List.length_filterMap_eq_countP]
  congr 1
  funext k
  cases p.members[k.val]? with
  | none => rfl
  | some m => cases hu : snapshot.get m.uplink <;> simp [hu]

/-- R106: a change of the evacuated flag of a planned group is reported. -/
theorem evacuationEvents_eq {plan : Plan} (h : plan.members.length ≤ 8) (g : Group) (replan : Bool)
    (snapshot : UplinkSet) (old new : GroupBuckets) : evacuationEvents g replan plan snapshot old new =
      if plan.members = [] then []
      else if old.evacuated = false ∧ new.evacuated = true then [.groupEvacuated g replan new.selector]
      else if old.evacuated = true ∧ new.evacuated = false then
        [.groupRecovered g replan new.selector (plan.members.countP fun m => snapshot.get m.uplink)]
      else [] := by
  unfold evacuationEvents
  by_cases hplan : plan.members = []
  · rw [Plan.planned_eq_false hplan, if_pos hplan]
    rfl
  · rw [Plan.planned_iff.2 hplan, if_neg hplan, Plan.usableSet_length h]
    cases old.evacuated <;> cases new.evacuated <;> simp

/-- R112: SWAP-DONE names the bank that an exchange makes active. -/
def swapReport (old new : PlanStore) : List Event := if new.active ≠ old.active then [.swapDone new.active] else []

theorem State.handReplan_report (replan : Bool) (s : State) :
    (if (s.handReplan replan).2 then [Event.swapDone (s.handReplan replan).1.plans.active] else []) =
      swapReport s.plans (s.handReplan replan).1.plans := by
  have hexchanged : s.plans.exchange.active ≠ s.plans.active := Bank.other_ne _
  unfold State.handReplan swapReport
  split
  · exact if_pos rfl
  · exact (if_neg (not_not.2 rfl)).symm

/-- R114: SETTLED reports the episode that a completion with nothing marked closes, this pass counted. -/
def SweepState.settledReport (w : SweepState) : List Event :=
  match w.dirty, w.episode with
  | [], some e => [.settled e.startSeconds e.startMicros (min 4095 (e.passes + 1))]
  | _, _ => []

theorem State.closeEpisode_report {s : State} {w : SweepState} {g : Group} (h : s.sweep = w.finish g) :
    s.closeEpisode.2 = w.settledReport := by
  unfold State.closeEpisode SweepState.settledReport
  rw [h]
  cases hd : w.dirty with
  | cons e rest => simp [SweepState.finish, hd]
  | nil => cases he : w.episode <;> simp [SweepState.finish, hd, he, saturating_eq_min]

/-- R105, step 6: the events of a completion, in their order. -/
theorem State.completePass_hands (s : State) (p : PassRecord) : s.Hands (s.completePass p)
    (evacuationEvents p.group p.flags.replan (s.passPlan p) p.snapshot (s.group p.group)
        ((s.completePass p).group p.group)
      ++ swapReport s.plans (s.completePass p).plans ++ s.sweep.settledReport) := by
  have hresult : (s.completePass p).group p.group = s.passResult p := by
    rw [(s.completePass_completed p).group, if_pos rfl]
  obtain ⟨m, hm⟩ : ∃ m : State, m = { s.setGroup p.group (s.passResult p) with
    sweep := (s.setGroup p.group (s.passResult p)).sweep.finish p.group } := ⟨_, rfl⟩
  have hraised : s.completePass p = (m.handReplan p.flags.replan).1.closeEpisode.1.raiseAll
      (evacuationEvents p.group p.flags.replan (s.passPlan p) p.snapshot (s.group p.group) (s.passResult p)
        ++ (if (m.handReplan p.flags.replan).2 then [.swapDone (m.handReplan p.flags.replan).1.plans.active] else [])
        ++ (m.handReplan p.flags.replan).1.closeEpisode.2) := by
    rw [hm]
    rfl
  obtain ⟨plans, hhand, -⟩ := m.handReplan_eq p.flags.replan
  obtain ⟨episode, hclose⟩ := (m.handReplan p.flags.replan).1.closeEpisode_eq
  have hplans : (s.completePass p).plans = (m.handReplan p.flags.replan).1.plans := by
    rw [hraised, State.raiseAll_plans, hclose]
  have hsettled : (m.handReplan p.flags.replan).1.closeEpisode.2 = s.sweep.settledReport :=
    State.closeEpisode_report (g := p.group) (by rw [hhand, hm]; rfl)
  have hstore : m.plans = s.plans := by rw [hm]; rfl
  rw [hresult, hplans, ← hstore, ← State.handReplan_report, ← hsettled]
  refine State.raiseAll_hands (m := (m.handReplan p.flags.replan).1.closeEpisode.1) _ ?_ ?_ (by rw [hraised])
  · rw [hclose, hhand, hm]
    rfl
  · rw [hraised, State.raiseAll_clock]

end Sys2Proof.Machine
end

section
/-! A pass completed: what it writes (O31) and what it reports (O32). -/

namespace Sys2Proof.Machine

/-- R99: the cursor after a completion, modulo 1,024. -/
theorem cursor_succ (g : Group) : g + 1 = Fin.ofNat 1024 ((g.val + 1) % 1024) := by
  apply Fin.ext
  simp [Fin.val_add]

/-- Settles O31: the group holds the pass's result, case by case, and the rest is the completion's. -/
theorem passCompletionWritesTheGroup : Obligations.PassCompletionWritesTheGroup := by
  intro s p hr hp hwf g x other old new spent
  have hother : other = x.selector.other := by
    unfold other
    cases x.selector <;> rfl
  clear_value other
  subst hother
  have hspent : ∀ b, spent (s.planIn b g) = passEvacuated (s.planIn b g) p.snapshot := fun b => by
    obtain ⟨hlength, -⟩ := hwf b g
    rw [Bool.eq_iff_iff, passEvacuated_iff hlength]
    exact decide_eq_true_iff
  have hnew : p.flags.replan = true → s.passPlan p = new := State.passPlan_replan
  have hrow := exec_passComplete_of_pass hr hp
  obtain ⟨plans, episode, events, e, -⟩ := s.completePass_eq p
  have hc := s.completePass_completed p
  have hsweep := s.completePass_sweep p
  obtain ⟨hexchanged, hkept⟩ := s.completePass_plans p
  have hselector := s.passResult_selector p
  obtain ⟨m, hm⟩ : ∃ m, m = s.completePass p := ⟨_, rfl⟩
  rw [← hm] at hrow e hc hsweep hexchanged hkept
  have hself : m.group g = s.passResult p := by rw [hc.group, if_pos rfl]
  refine ⟨_, hrow, ?_, ?_, fun hd => ?_, fun hd => ?_, fun k hk => ?_, fun h hplan => ?_, fun h hplan => ?_,
    fun h => ?_, fun h hplan => ?_, fun h hplan => ?_, hexchanged, hkept⟩
  · rw [e]
    rfl
  · show m.sweep = ({ s.sweep with
      cursor := Fin.ofNat 1024 ((g.val + 1) % 1024), pass := none, episode := m.sweep.episode } : SweepState)
    rw [hsweep, ← cursor_succ]
  · show m.sweep.episode = none
    rw [hsweep, if_pos hd]
  · show m.sweep.episode = _
    rw [hsweep, if_neg hd]
    simp only [saturating_eq_min]
  · show m.group k = s.group k
    rw [hc.group, if_neg (Ne.symm hk)]
  · show m.group g = x
    rw [hself, State.passResult_ordinary_unplanned h hplan]
  · show (m.group g).array x.selector = _ ∧ (m.group g).array _ = _ ∧ (m.group g).selector = _
      ∧ (m.group g).evacuated = _ ∧ (m.group g).unplannedHit = _
    rw [hself, State.passResult_ordinary_planned h hplan, hspent]
    exact ⟨GroupBuckets.array_setArray _ _ _, (GroupBuckets.array_setArray_other _ _ _).1,
      GroupBuckets.setArray_selector _ _ _, rfl, GroupBuckets.setArray_unplannedHit _ _ _⟩
  · show (m.group g).selector = _ ∧ (m.group g).array x.selector = _
    rw [hself, hselector, if_pos h]
    refine ⟨rfl, ?_⟩
    by_cases hplan : new.members = []
    · rw [State.passResult_replan_unplanned h (by rw [hnew h, hplan])]
      exact (GroupBuckets.array_setArray_other _ _ _).2
    · rw [State.passResult_replan_planned h (by rwa [hnew h])]
      exact (GroupBuckets.array_setArray_other _ _ _).2
  · show (m.group g).array _ = _ ∧ (m.group g).evacuated = _ ∧ (m.group g).unplannedHit = _
    rw [hself, State.passResult_replan_unplanned h (by rw [hnew h, hplan])]
    exact ⟨GroupBuckets.array_setArray _ _ _, rfl, GroupBuckets.setArray_unplannedHit _ _ _⟩
  · show (m.group g).array _ = _ ∧ (m.group g).evacuated = _ ∧ (m.group g).unplannedHit = _
    rw [hself, State.passResult_replan_planned h (by rwa [hnew h]), hnew h, hspent]
    exact ⟨GroupBuckets.array_setArray _ _ _, rfl, rfl⟩

/-- Settles O32: the completion's events in their order, and the release of the READ-GROUP that waited for it. -/
theorem passCompletionReports : Obligations.PassCompletionReports := by
  intro s hr
  refine ⟨?_, fun hidle => by rw [exec_passComplete hr, passComplete_of_idle hidle]⟩
  intro p hp hwf g plan
  have hplan : s.passPlan p = plan := rfl
  have hlength : plan.members.length ≤ 8 := by
    obtain ⟨h, -⟩ := hwf (s.passResult p).selector p.group
    rwa [← hplan, State.passPlan_eq]
  have hrow := exec_passComplete_of_pass hr hp
  have hhands := s.completePass_hands p
  have hcontrol := s.completePass_control p
  obtain ⟨m, hm⟩ : ∃ m, m = s.completePass p := ⟨_, rfl⟩
  rw [← hm] at hrow hhands hcontrol
  rw [hplan, evacuationEvents_eq hlength] at hhands
  refine ⟨_, hrow, hhands, fun tag n hh hn => ?_, fun hother => ?_⟩
  · show (m.releaseReadGroup p.group).control = _
    rw [State.releaseReadGroup_held (hcontrol ▸ hh) (judgeGroup_eq_some.2 hn), ← hcontrol]
    rfl
  · show (m.releaseReadGroup p.group).control = _
    rw [State.releaseReadGroup_other _ fun tag n hh hn => ?_, hcontrol]
    exact hother tag n (hcontrol ▸ hh) (judgeGroup_eq_some.1 hn)

end Sys2Proof.Machine
end

section
/-! SUPPORT. The lanes and the outward lists: what an evaluation of a lane's conditions writes (R119), what a record
handed for sending does to its list (R143), and what an arrival (R118 to R122) and a service (R124, R129) do at their
lane, each said once. -/

namespace Sys2Proof.Machine

/-! ### A lane and the forwarding port written -/

theorem State.setLane_same (s : State) (l : Lane) : s.setLane l (s.lane l) = s := by
  have e : s.lookup.lanes.set l (s.lookup.lanes.get l) = s.lookup.lanes := vector_ext_get fun m => by
    rw [vector_get_set]
    split
    · rename_i h
      rw [h]
    · rfl
  unfold State.setLane State.lane
  rw [e]

theorem State.setLane_setLane (s : State) (l : Lane) (x y : LaneState) :
    (s.setLane l x).setLane l y = s.setLane l y := by
  have e : (s.lookup.lanes.set l x).set l y = s.lookup.lanes.set l y := vector_ext_get fun m => by
    simp only [vector_get_set]
    split <;> rfl
  unfold State.setLane
  rw [e]

theorem State.lane_setLane_other {l k : Lane} (h : k ≠ l) (s : State) (x : LaneState) :
    (s.setLane l x).lane k = s.lane k := by rw [State.lane_setLane, if_neg (Ne.symm h)]

/-- One lane and the forwarding port written: what the lane rules write of the part (R119, R143). -/
def State.withLane (s : State) (l : Lane) (x : LaneState) (f : FwdState) : State := { s.setLane l x with fwd := f }

@[simp] theorem State.lane_withLane_self (s : State) (l : Lane) (x : LaneState) (f : FwdState) :
    (s.withLane l x f).lane l = x := State.lane_setLane_self s l x

theorem State.lane_withLane_other {l k : Lane} (h : k ≠ l) (s : State) (x : LaneState) (f : FwdState) :
    (s.withLane l x f).lane k = s.lane k := State.lane_setLane_other h s x

/-! ### Records handed for sending (R143) -/

/-- R143: the forwarding port after a signal is handed for sending. -/
def FwdState.signalled (f : FwdState) (x : Signal) : FwdState :=
  if f.linkUp then { f with signals := f.signals.filter (fun y => y.lane ≠ x.lane) ++ [x] } else f

theorem State.handSignal_eq (x : Signal) (s : State) : s.handSignal x = { s with fwd := s.fwd.signalled x } := by
  unfold State.handSignal FwdState.signalled
  split <;> rfl

theorem State.handRefusal_up {s : State} (a : Answer) (h : s.fwd.linkUp = true) :
    s.handRefusal a = { s with fwd := s.fwd.placeRefusal a } := if_pos h

theorem FwdState.placeRefusal_room {f : FwdState} (a : Answer) (h : f.refusals.length < 2) :
    f.placeRefusal a = { f with refusals := f.refusals ++ [a] } := by
  unfold FwdState.placeRefusal
  split
  · rename_i hr
    rw [hr, List.length_cons, List.length_cons] at h
    omega
  · rfl

/-- R143, R144; log entry 10: with both places taken the head goes to the lane. -/
theorem FwdState.placeRefusal_full {f : FwdState} {head second : Answer} (a : Answer)
    (h : f.refusals = [head, second]) :
    f.placeRefusal a = { f with refusals := [second, a], ftx := some head.record } := by
  unfold FwdState.placeRefusal
  rw [h]
  rfl

/-! ### The pause and resume conditions (R119) -/

/-- R119: a lane after the pause condition is evaluated. -/
def LaneState.afterPause (x : LaneState) : LaneState :=
  { x with paused := x.paused || decide (x.pauseMark ≤ x.queue.length) }

/-- R119: a lane after the resume condition is evaluated. -/
def LaneState.afterResume (x : LaneState) : LaneState :=
  { x with paused := x.paused && !x.resumeDue, overrun := x.overrun && !x.resumeDue }

theorem LaneState.pauseDue_iff {x : LaneState} :
    x.pauseDue = true ↔ x.paused = false ∧ x.pauseMark ≤ x.queue.length := by
  simp [LaneState.pauseDue]

theorem LaneState.resumeDue_iff {x : LaneState} :
    x.resumeDue = true ↔ x.paused = true ∧ x.queue.length ≤ x.resumeMark := by
  simp [LaneState.resumeDue]

theorem LaneState.afterPause_of_due {x : LaneState} (h : x.pauseDue = true) :
    x.afterPause = { x with paused := true } := by
  unfold LaneState.afterPause
  rw [decide_eq_true (LaneState.pauseDue_iff.1 h).2, Bool.or_true]

theorem LaneState.afterPause_of_not_due {x : LaneState} (h : ¬ x.pauseDue = true) : x.afterPause = x := by
  have e : (x.paused || decide (x.pauseMark ≤ x.queue.length)) = x.paused := by
    rw [LaneState.pauseDue_iff, not_and] at h
    cases hp : x.paused with
    | true => rfl
    | false => rw [Bool.false_or, decide_eq_false (h hp)]
  unfold LaneState.afterPause
  rw [e]

theorem LaneState.afterResume_of_due {x : LaneState} (h : x.resumeDue = true) :
    x.afterResume = { x with paused := false, overrun := false } := by
  unfold LaneState.afterResume
  rw [h, Bool.not_true, Bool.and_false, Bool.and_false]

theorem LaneState.afterResume_of_not_due {x : LaneState} (h : ¬ x.resumeDue = true) : x.afterResume = x := by
  unfold LaneState.afterResume
  rw [Bool.eq_false_iff.2 h, Bool.not_false, Bool.and_true, Bool.and_true]

/-- R119: the pause condition evaluated on a lane just written; a PAUSE is handed for sending when it comes to hold. -/
theorem State.evaluatePause_setLane (s : State) (l : Lane) (x : LaneState) :
    (s.setLane l x).evaluatePause l = s.withLane l x.afterPause
      (if x.pauseDue then s.fwd.signalled { lane := l, pause := true } else s.fwd) := by
  unfold State.evaluatePause
  rw [State.lane_setLane_self]
  split
  · rename_i h
    rw [State.setLane_setLane, State.handSignal_eq, LaneState.afterPause_of_due h]
    rfl
  · rename_i h
    rw [LaneState.afterPause_of_not_due h]
    rfl

/-- R119: the resume condition evaluated on a lane just written; a RESUME is handed for sending when it comes to
hold. -/
theorem State.evaluateResume_setLane (s : State) (l : Lane) (x : LaneState) :
    (s.setLane l x).evaluateResume l = s.withLane l x.afterResume
      (if x.resumeDue then s.fwd.signalled { lane := l, pause := false } else s.fwd) := by
  unfold State.evaluateResume
  rw [State.lane_setLane_self]
  split
  · rename_i h
    rw [State.setLane_setLane, State.handSignal_eq, LaneState.afterResume_of_due h]
    rfl
  · rename_i h
    rw [LaneState.afterResume_of_not_due h]
    rfl

/-! ### Arrival at a lane (R118 to R122) -/

/-- R122: a lane whose queue a request has joined. -/
def LaneState.joined (x : LaneState) (q : Request) : LaneState := { x with queue := x.queue ++ [q] }

section Arrival
variable {s : State} {q : Request}

/-- R118: at a disabled lane. -/
theorem State.laneArrival_disabled (h : (s.lane q.lane).enabled = false) :
    s.laneArrival q = s.handRefusal (refusalAnswer q.lane q.tag .refused) := by
  simp only [State.laneArrival, h, Bool.not_false, if_true]

/-- R121: at a full lane, for the first time in its paused episode or again. -/
theorem State.laneArrival_full (h : (s.lane q.lane).enabled = true) (hfull : 16 ≤ (s.lane q.lane).queue.length) :
    s.laneArrival q =
      if (s.lane q.lane).overrun then s.handRefusal (refusalAnswer q.lane q.tag .overrun)
      else ((s.handRefusal (refusalAnswer q.lane q.tag .overrun)).setLane q.lane
        { s.lane q.lane with overrun := true }).raise (.laneOverrun q.lane q.tag) := by
  simp only [State.laneArrival, h, Bool.not_true, Bool.false_eq_true, if_false, laneCapacity, if_pos hfull]

/-- R122, R119: at an enabled lane with room. -/
theorem State.laneArrival_queued (h : (s.lane q.lane).enabled = true) (hroom : (s.lane q.lane).queue.length < 16) :
    s.laneArrival q =
      s.withLane q.lane ((s.lane q.lane).joined q).afterPause
        (if ((s.lane q.lane).joined q).pauseDue then s.fwd.signalled { lane := q.lane, pause := true }
          else s.fwd) := by
  rw [← State.evaluatePause_setLane]
  simp only [State.laneArrival, LaneState.joined, h, Bool.not_true, Bool.false_eq_true, if_false, laneCapacity,
    if_neg (Nat.not_le.2 hroom)]

end Arrival

/-! ### A service begun (R124) -/

/-- R128: the group a request names. -/
theorem Request.group?_eq_some {q : Request} {g : Group} : q.group? = some g ↔ q.group.toNat = g.val := by
  unfold Request.group?
  split
  · rw [Option.some.injEq, Fin.ext_iff]
  · rename_i h
    exact iff_of_false nofun fun e => h (e ▸ g.isLt)

theorem Request.group?_eq_none {q : Request} : q.group? = none ↔ 1024 ≤ q.group.toNat := by
  unfold Request.group?
  split
  · exact iff_of_false nofun (by omega)
  · exact iff_of_true rfl (by omega)

/-- R129: a lookup on an unplanned group whose flag is clear. -/
theorem State.noteUnplanned_noted {s : State} {q : Request} {g : Group} (hg : q.group? = some g)
    (hp : (s.servedPlan g).planned = false) (hh : (s.group g).unplannedHit = false) :
    s.noteUnplanned q =
      (s.setGroup g { s.group g with unplannedHit := true }).raise
        (.unplannedHit g q.lane (s.group g).selector) := by
  simp only [State.noteUnplanned, hg, hp, hh, Bool.or_self, Bool.false_eq_true, if_false]

/-- R129: every other lookup leaves the part. -/
theorem State.noteUnplanned_nothing {s : State} {q : Request} (h : ∀ g, q.group? = some g →
    (s.servedPlan g).planned = true ∨ (s.group g).unplannedHit = true) : s.noteUnplanned q = s := by
  unfold State.noteUnplanned
  split
  · rfl
  · rename_i g hg
    rw [if_pos (Bool.or_eq_true_iff.2 (h g hg))]

/-- R129: a lookup writes a group's flag and queues an event, at most. -/
theorem State.noteUnplanned_frame (q : Request) (s : State) :
    s.noteUnplanned q = { s with buckets := (s.noteUnplanned q).buckets, events := (s.noteUnplanned q).events } := by
  unfold State.noteUnplanned
  repeat' split
  all_goals rfl

/-- R124: a lane whose head has left. -/
def LaneState.headless (x : LaneState) (rest : List Request) : LaneState := { x with queue := rest }

/-- R124, steps 2 and 3, R119: the part once the head of lane `l` has left and the resume condition is evaluated. -/
def State.headTaken (s : State) (l : Lane) (rest : List Request) : State :=
  ({ s with lookup := { s.lookup with lastServed := l } } : State).withLane l ((s.lane l).headless rest).afterResume
    (if ((s.lane l).headless rest).resumeDue then s.fwd.signalled { lane := l, pause := false } else s.fwd)

/-- R124, R129: a service; the answer is decided on the part as it stood, since no lane is part of the decision. -/
theorem State.serve_eq (l : Lane) (q : Request) (rest : List Request) (s : State) :
    s.serve l q rest = { (s.headTaken l rest).noteUnplanned q with
      lookup := { (s.headTaken l rest).lookup with serving := some (s.answerTo q) } } := by
  have htaken := State.evaluateResume_setLane { s with lookup := { s.lookup with lastServed := l } } l
    ((s.lane l).headless rest)
  have hdecided : (s.headTaken l rest).answerTo q = s.answerTo q := rfl
  have hnoted := congrArg State.lookup ((s.headTaken l rest).noteUnplanned_frame q)
  rw [← hdecided, ← hnoted]
  exact congrArg (fun t : State => { t.noteUnplanned q with
    lookup := { (t.noteUnplanned q).lookup with serving := some (t.answerTo q) } }) htaken

/-- R124, step 1: the lanes by their distance from the last served. -/
theorem cyclicLanes_eq : ∀ last : Lane,
    cyclicLanes last = (List.range 4).map fun i => Fin.ofNat 4 (last.val + (i + 1)) := by decide

/-- R124, step 1: the lane chosen is the first with a request. -/
theorem State.chooseLane_eq_some {s : State} {l : Lane} {d : Nat} (h1 : 1 ≤ d) (h4 : d ≤ 4)
    (hl : l.val = (s.lookup.lastServed.val + d) % 4) (hqueue : (s.lane l).queue ≠ [])
    (hbefore : ∀ (k : Lane) (i : Nat), 1 ≤ i → i < d → k.val = (s.lookup.lastServed.val + i) % 4 →
      (s.lane k).queue = []) : s.chooseLane = some l := by
  obtain ⟨i, rfl⟩ := Nat.exists_eq_add_of_le' h1
  have hat : Fin.ofNat 4 (s.lookup.lastServed.val + (i + 1)) = l := Fin.ext hl.symm
  unfold State.chooseLane
  rw [cyclicLanes_eq, List.find?_map, Option.map_eq_some_iff]
  refine ⟨i, List.find?_range_eq_some.2 ⟨?_, List.mem_range.2 (by omega), fun j hj => ?_⟩, hat⟩
  · simpa only [Function.comp_apply, hat, Bool.not_eq_true', List.isEmpty_eq_false_iff] using hqueue
  · have hempty := hbefore (Fin.ofNat 4 (s.lookup.lastServed.val + (j + 1))) (j + 1) (by omega) (by omega) rfl
    simp only [Function.comp_apply, hempty, List.isEmpty_nil, Bool.not_true, Bool.not_false]

/-- R124: with no request no lane is chosen. -/
theorem State.chooseLane_eq_none {s : State} (h : ∀ l, (s.lane l).queue = []) : s.chooseLane = none := by
  unfold State.chooseLane
  rw [List.find?_eq_none]
  intro l _
  simp only [h, List.isEmpty_nil, Bool.not_true, Bool.false_eq_true, not_false_eq_true]

/-- R124: what a begin does, and when it does nothing (log entry 1). -/
theorem serviceBegin_serves {s : State} {l : Lane} {q : Request} {rest : List Request}
    (hidle : s.lookup.serving = none) (hchoose : s.chooseLane = some l) (hqueue : (s.lane l).queue = q :: rest) :
    serviceBegin s = s.serve l q rest := by
  simp only [serviceBegin, hidle, hchoose, hqueue]

theorem serviceBegin_nothing {s : State} (h : s.lookup.serving ≠ none ∨ ∀ l, (s.lane l).queue = []) :
    serviceBegin s = s := by
  cases hs : s.lookup.serving with
  | some a => simp only [serviceBegin, hs]
  | none => simp only [serviceBegin, hs, State.chooseLane_eq_none (h.resolve_left (not_not.2 hs))]

end Sys2Proof.Machine
end

section
/-! SUPPORT. The soundness of the lanes and of the forwarding port, apart from the part that holds them: what each rule
of chapters 7 and 8 keeps of it. -/

namespace Sys2Proof.Machine

/-! ### A lane (R119 to R123) -/

/-- A lane's soundness but for its two conditions: what an evaluation of them makes sound (R119). -/
structure LaneState.InBounds (l : Lane) (x : LaneState) : Prop where
  marks : 2 ≤ x.pauseMark ∧ x.pauseMark ≤ 16 ∧ x.resumeMark < x.pauseMark
  length : x.queue.length ≤ 16
  overrun : x.overrun = true → x.paused = true
  lane : ∀ q ∈ x.queue, q.lane = l

theorem LaneState.Sound.inBounds {l : Lane} {x : LaneState} (h : x.Sound l) : x.InBounds l := by
  obtain ⟨hlow, hhigh, hresume, hlength, -, -, hoverrun, hlane⟩ := h
  exact ⟨⟨hlow, hhigh, hresume⟩, hlength, hoverrun, hlane⟩

/-- R119: a lane held within its bounds is paused above the pause mark once the pause condition is evaluated. -/
theorem LaneState.InBounds.afterPause {l : Lane} {x : LaneState} (h : x.InBounds l)
    (hlow : x.paused = true → x.resumeMark < x.queue.length) : x.afterPause.Sound l := by
  obtain ⟨⟨h2, h16, hmarks⟩, hlength, hoverrun, hlane⟩ := h
  refine ⟨h2, h16, hmarks, hlength, fun hle => ?_, fun hp => ?_, fun ho => ?_, hlane⟩
  · exact Bool.or_eq_true_iff.2 (.inr (decide_eq_true hle))
  · obtain hp | hle := Bool.or_eq_true_iff.1 hp
    · exact hlow hp
    · exact hmarks.trans_le (of_decide_eq_true hle)
  · exact Bool.or_eq_true_iff.2 (.inl (hoverrun ho))

/-- R119: and clear at the resume mark once the resume condition is. -/
theorem LaneState.InBounds.afterResume {l : Lane} {x : LaneState} (h : x.InBounds l)
    (hhigh : x.pauseMark ≤ x.queue.length → x.paused = true) : x.afterResume.Sound l := by
  obtain ⟨⟨h2, h16, hmarks⟩, hlength, hoverrun, hlane⟩ := h
  by_cases hdue : x.resumeDue = true
  · obtain ⟨-, hle⟩ := LaneState.resumeDue_iff.1 hdue
    rw [LaneState.afterResume_of_due hdue]
    exact ⟨h2, h16, hmarks, hlength, fun hge => absurd (hge.trans hle) (Nat.not_le.2 hmarks), nofun, nofun, hlane⟩
  · rw [LaneState.afterResume_of_not_due hdue]
    rw [LaneState.resumeDue_iff, not_and, Nat.not_le] at hdue
    exact ⟨h2, h16, hmarks, hlength, hhigh, hdue, hoverrun, hlane⟩

/-- R123: a lane after both conditions are evaluated, of which only one can hold. -/
def LaneState.afterMarks (x : LaneState) : LaneState := if x.paused then x.afterResume else x.afterPause

theorem LaneState.InBounds.afterMarks {l : Lane} {x : LaneState} (h : x.InBounds l) : x.afterMarks.Sound l := by
  unfold LaneState.afterMarks
  split
  · rename_i hp
    exact h.afterResume fun _ => hp
  · rename_i hp
    exact h.afterPause fun ht => absurd ht hp

/-- R123: that evaluation changes the two flags alone. -/
theorem LaneState.afterMarks_flags (x : LaneState) : x.afterMarks =
    { x with paused := x.afterMarks.paused, overrun := x.afterMarks.overrun } := by
  unfold LaneState.afterMarks
  split <;> rfl

/-- R122: a request of the lane joins a lane with room. -/
theorem LaneState.Sound.joined {q : Request} {x : LaneState} (h : x.Sound q.lane) (hroom : x.queue.length < 16) :
    (x.joined q).afterPause.Sound q.lane := by
  obtain ⟨hmarks, -, hoverrun, hlane⟩ := h.inBounds
  obtain ⟨-, -, -, -, -, hlow, -⟩ := h
  have hlength : (x.joined q).queue.length = x.queue.length + 1 := List.length_append
  refine LaneState.InBounds.afterPause ⟨hmarks, by omega, hoverrun, fun r hr => ?_⟩ fun hp => ?_
  · obtain hr | hr := List.mem_append.1 hr
    · exact hlane r hr
    · rw [List.mem_singleton.1 hr]
  · exact (hlow hp).trans (by omega)

/-- R124: the head of a lane leaves. -/
theorem LaneState.Sound.headless {l : Lane} {x : LaneState} {q : Request} {rest : List Request} (h : x.Sound l)
    (hqueue : x.queue = q :: rest) : (x.headless rest).afterResume.Sound l := by
  obtain ⟨hmarks, hlength, hoverrun, hlane⟩ := h.inBounds
  obtain ⟨-, -, -, -, hhigh, -⟩ := h
  rw [hqueue, List.length_cons] at hlength hhigh
  refine LaneState.InBounds.afterResume ⟨hmarks, Nat.le_of_succ_le hlength, hoverrun, fun r hr => ?_⟩ fun hge => ?_
  · exact hlane r (hqueue ▸ List.mem_cons_of_mem q hr)
  · exact hhigh (Nat.le_succ_of_le hge)

/-- R121: a full lane is paused, so that its overrun flag may be set. -/
theorem LaneState.Sound.overrun {l : Lane} {x : LaneState} (h : x.Sound l) (hfull : 16 ≤ x.queue.length) :
    ({ x with overrun := true } : LaneState).Sound l := by
  obtain ⟨h2, h16, hmarks, hlength, hhigh, hlow, -, hlane⟩ := h
  exact ⟨h2, h16, hmarks, hlength, hhigh, hlow, fun _ => hhigh (h16.trans hfull), hlane⟩

/-- R135: a lane emptied with the link. -/
theorem LaneState.Sound.flush {l : Lane} {x : LaneState} (h : x.Sound l) : x.flush.Sound l := by
  obtain ⟨h2, h16, hmarks, -⟩ := h
  exact ⟨h2, h16, hmarks, Nat.zero_le _, fun hle => absurd (show 2 ≤ 0 from h2.trans hle) (by decide), nofun, nofun,
    nofun⟩

/-- R123: a lane given an enabled flag and its two marks. -/
def LaneState.marked (x : LaneState) (enabled : Bool) (marks : Nat × Nat) : LaneState :=
  { x with enabled, pauseMark := marks.1, resumeMark := marks.2 }

/-- R123: the marks as clamped are in range. -/
theorem clampMarks_bounds (p r : Byte) :
    2 ≤ (clampMarks p r).1 ∧ (clampMarks p r).1 ≤ 16 ∧ (clampMarks p r).2 < (clampMarks p r).1 := by
  obtain ⟨hlow, hhigh⟩ := clampTo_bounds (lo := 2) (hi := 16) p.toNat (by decide)
  have hresume := clampTo_zero_le (clampTo 2 16 p.toNat - 1) r.toNat
  refine ⟨hlow, hhigh, ?_⟩
  show clampTo 0 (clampTo 2 16 p.toNat - 1) r.toNat < clampTo 2 16 p.toNat
  omega

/-! ### The forwarding port (chapter 8) -/

/-- What the soundness of the link says of the forwarding port alone. -/
structure FwdState.Sound (f : FwdState) : Prop where
  timer : f.silenceTimer.isSome ↔ f.linkUp = true
  silence : 1 ≤ f.silence ∧ f.silence ≤ 100
  headerErrors : f.headerErrors ≤ 255
  refusals : f.refusals.length ≤ 2
  signals : f.signals.Pairwise fun x y => x.lane ≠ y.lane
  probes : f.probes.Pairwise fun x y => x.uplink ≠ y.uplink
  down : f.linkUp = false → f.refusals = [] ∧ f.signals = [] ∧ f.probes = []

/-- A link that is UP asks nothing of the lists. -/
theorem FwdState.down_of_up {f : FwdState} {p : Prop} (h : f.linkUp = true) (hd : f.linkUp = false) : p := by
  rw [h] at hd
  cases hd

/-- R143: a record that replaces the one of its key keeps one record a key. -/
theorem pairwise_replace {α β : Type} [DecidableEq β] (key : α → β) {xs : List α}
    (h : xs.Pairwise fun x y => key x ≠ key y) (x : α) :
    (xs.filter (fun y => key y ≠ key x) ++ [x]).Pairwise fun x y => key x ≠ key y := by
  refine List.pairwise_append.2 ⟨h.filter _, List.pairwise_singleton _ _, fun y hy z hz => ?_⟩
  rw [List.mem_singleton.1 hz]
  exact of_decide_eq_true (List.mem_filter.1 hy).2

theorem FwdState.Sound.signalled {f : FwdState} (h : f.Sound) (x : Signal) : (f.signalled x).Sound := by
  unfold FwdState.signalled
  split
  · rename_i hup
    exact { h with signals := pairwise_replace Signal.lane h.signals x, down := FwdState.down_of_up hup }
  · exact h

/-- R123, R119: the signal of the condition of a lane that comes to hold, if either does. -/
def FwdState.marksSignalled (f : FwdState) (l : Lane) (x : LaneState) : FwdState :=
  if x.paused then if x.resumeDue then f.signalled { lane := l, pause := false } else f
  else if x.pauseDue then f.signalled { lane := l, pause := true } else f

theorem State.evaluateMarks_setLane (s : State) (l : Lane) (x : LaneState) :
    (s.setLane l x).evaluateMarks l = s.withLane l x.afterMarks (s.fwd.marksSignalled l x) := by
  unfold State.evaluateMarks LaneState.afterMarks FwdState.marksSignalled
  rw [State.lane_setLane_self]
  split
  · exact State.evaluateResume_setLane s l x
  · exact State.evaluatePause_setLane s l x

theorem FwdState.signalled_linkUp (f : FwdState) (x : Signal) : (f.signalled x).linkUp = f.linkUp := by
  unfold FwdState.signalled
  split <;> rfl

/-- R143: an answer refused takes its place. -/
theorem FwdState.Sound.placeRefusal {f : FwdState} (h : f.Sound) (hup : f.linkUp = true) (a : Answer) :
    (f.placeRefusal a).Sound := by
  obtain ⟨hlength, -, e⟩ := f.placeRefusal_spec a h.refusals
  rw [e]
  exact { h with refusals := hlength, down := FwdState.down_of_up hup }

/-- R138: a faulty record counted. -/
theorem FwdState.Sound.errorCounted {f : FwdState} (h : f.Sound) :
    ({ f with headerErrors := saturating 255 f.headerErrors } : FwdState).Sound :=
  { h with headerErrors := saturating_le 255 _ }

/-- R139, R140: the link UP with its silence timer restarted. -/
theorem FwdState.Sound.accepted {f : FwdState} (h : f.Sound) (run : SilenceRun) :
    ({ f with linkUp := true, silenceTimer := some run } : FwdState).Sound :=
  { h with timer := iff_of_true rfl rfl, down := nofun }

/-- R141: the link DOWN. -/
theorem FwdState.Sound.lost {f : FwdState} (h : f.Sound) :
    ({ f with linkUp := false, silenceTimer := none, refusals := [], signals := [], probes := [] } : FwdState).Sound :=
  { h with
    timer := iff_of_false nofun nofun, refusals := Nat.zero_le _, signals := .nil, probes := .nil,
    down := fun _ => ⟨rfl, rfl, rfl⟩ }

/-! ### The two together -/

/-- Nothing waits at the Lookup Engine, as while the link is DOWN (R135). -/
def LookupState.Empty (x : LookupState) : Prop := x.serving = none ∧ ∀ l, (x.lanes.get l).queue = []

theorem forwardingSound_iff {s : State} : ForwardingSound s ↔
    (∀ l, (s.lane l).Sound l) ∧ s.fwd.Sound ∧ (s.fwd.linkUp = false → s.lookup.Empty) := by
  constructor
  · rintro ⟨hlanes, htimer, hlow, hhigh, herrors, hrefusals, hsignals, hprobes, hdown⟩
    refine ⟨hlanes, ⟨htimer, ⟨hlow, hhigh⟩, herrors, hrefusals, hsignals, hprobes, fun hd => ?_⟩, fun hd => ?_⟩
      <;> obtain ⟨hr, hs, hp, hserving, hqueues⟩ := hdown hd
    · exact ⟨hr, hs, hp⟩
    · exact ⟨hserving, hqueues⟩
  · rintro ⟨hlanes, ⟨htimer, ⟨hlow, hhigh⟩, herrors, hrefusals, hsignals, hprobes, hlists⟩, hempty⟩
    refine ⟨hlanes, htimer, hlow, hhigh, herrors, hrefusals, hsignals, hprobes, fun hd => ?_⟩
    obtain ⟨hr, hs, hp⟩ := hlists hd
    obtain ⟨hserving, hqueues⟩ := hempty hd
    exact ⟨hr, hs, hp, hserving, hqueues⟩

/-- It is read off the Lookup Engine and the forwarding port alone. -/
theorem ForwardingSound.of_same {s t : State} (h : ForwardingSound s) (hlookup : t.lookup = s.lookup)
    (hfwd : t.fwd = s.fwd) : ForwardingSound t := by
  obtain ⟨hlanes, hport, hempty⟩ := forwardingSound_iff.1 h
  unfold State.lane at hlanes
  rw [← hlookup] at hlanes hempty
  rw [← hfwd] at hport hempty
  exact forwardingSound_iff.2 ⟨hlanes, hport, hempty⟩

/-- The forwarding port written, the link as it stood or UP. -/
theorem ForwardingSound.withFwd {s : State} (h : ForwardingSound s) {f : FwdState} (hf : f.Sound)
    (hlink : f.linkUp = s.fwd.linkUp ∨ f.linkUp = true) : ForwardingSound { s with fwd := f } := by
  obtain ⟨hlanes, -, hempty⟩ := forwardingSound_iff.1 h
  refine forwardingSound_iff.2 ⟨hlanes, hf, fun hd => ?_⟩
  obtain e | e := hlink
  · exact hempty (e.symm.trans hd)
  · exact FwdState.down_of_up e hd

/-- One lane written with the port: a lane with a request needs the link UP. -/
theorem ForwardingSound.withLane {s : State} (h : ForwardingSound s) {l : Lane} {x : LaneState} {f : FwdState}
    (hx : x.Sound l) (hf : f.Sound) (hlink : f.linkUp = s.fwd.linkUp) (hqueue : f.linkUp = false → x.queue = []) :
    ForwardingSound (s.withLane l x f) := by
  obtain ⟨hlanes, -, hempty⟩ := forwardingSound_iff.1 h
  refine forwardingSound_iff.2 ⟨fun k => ?_, hf, fun hd => ⟨(hempty (hlink.symm.trans hd)).1, fun k => ?_⟩⟩
    <;> by_cases hk : k = l
  · rw [hk, State.lane_withLane_self]
    exact hx
  · rw [State.lane_withLane_other hk]
    exact hlanes k
  · show ((s.withLane l x f).lane k).queue = []
    rw [hk, State.lane_withLane_self]
    exact hqueue hd
  · show ((s.withLane l x f).lane k).queue = []
    rw [State.lane_withLane_other hk]
    exact (hempty (hlink.symm.trans hd)).2 k

end Sys2Proof.Machine
end

section
/-! The lanes and the forwarding port are sound after every step (O55). -/

namespace Sys2Proof.Machine

/-! ### The rows of the uplinks, the sweep engine and the events -/

/-- R53: a usability evaluation writes neither the lanes nor the port. -/
theorem ForwardingSound.evaluateUsability {m : State} (h : ForwardingSound m) (touched : List Conduit)
    (events : List Event) (before : State) : ForwardingSound (m.evaluateUsability touched events before) := by
  rw [State.evaluateUsability_frame]
  exact h

theorem ForwardingSound.settleHealth {s : State} (h : ForwardingSound s) (u : Uplink)
    (y : UplinkState × List Event) (before : State) : ForwardingSound (s.settleHealth u y before) :=
  ForwardingSound.evaluateUsability (m := s.setUplink u y.1) h _ _ _

theorem ForwardingSound.handOver {s : State} (h : ForwardingSound s) (u : Uplink) (x : UplinkState) :
    ForwardingSound (s.handOver u x) := by
  obtain ⟨_, _, _, ⟨⟨-, -, hlookup, -⟩, -⟩, hfwd, -⟩ := State.handOver_spec u x s
  exact h.of_same hlookup hfwd

theorem ForwardingSound.deliver {s : State} (h : ForwardingSound s) (marked : Group → Bool) (f : DirtyFlags) :
    ForwardingSound (s.deliver marked f) := h.of_same (State.deliver_lookup _ _ _) (State.deliver_fwd _ _ _)

theorem losEdge_forwardingSound (u : Uplink) (level : Bool) {s : State} (h : ForwardingSound s) :
    ForwardingSound (losEdge u level s) := by
  by_cases hpin : s.resetHeld = true ∨ (s.uplink u).rawLos = level
  · rw [losEdge_pin hpin]
    exact h
  · rw [not_or, Bool.not_eq_true] at hpin
    obtain ⟨hr, hl⟩ := hpin
    cases hm : (s.uplink u).monitored with
    | false => rw [losEdge_disabled hr hl hm]; exact h
    | true => rw [losEdge_monitored hr hl hm]; exact h.handOver _ _

theorem lossQualifyExpiry_forwardingSound (u : Uplink) {s : State} (h : ForwardingSound s) :
    ForwardingSound (lossQualifyExpiry u s) := by
  cases ht : (s.uplink u).lossTimer with
  | none => rwa [lossQualifyExpiry_stopped ht]
  | some e => rw [lossQualifyExpiry_running ht]; exact ForwardingSound.handOver (s := s.advanceTo e) h _ _

theorem lightQualifyExpiry_forwardingSound (u : Uplink) {s : State} (h : ForwardingSound s) :
    ForwardingSound (lightQualifyExpiry u s) := by
  cases ht : (s.uplink u).lightTimer with
  | none => rwa [lightQualifyExpiry_stopped ht]
  | some e => rw [lightQualifyExpiry_running ht]; exact ForwardingSound.handOver (s := s.advanceTo e) h _ _

theorem holdOffExpiry_forwardingSound (u : Uplink) {s : State} (h : ForwardingSound s) :
    ForwardingSound (holdOffExpiry u s) := by
  unfold holdOffExpiry
  split
  · rename_i e _
    exact ForwardingSound.settleHealth (s := s.advanceTo e) h _ _ _
  · exact h

theorem waitToRestoreExpiry_forwardingSound (u : Uplink) {s : State} (h : ForwardingSound s) :
    ForwardingSound (waitToRestoreExpiry u s) := by
  unfold waitToRestoreExpiry
  split
  · rename_i e _
    exact ForwardingSound.settleHealth (s := s.advanceTo e) h _ _ _
  · exact h

theorem continuityDeadlineExpiry_forwardingSound (u : Uplink) {s : State} (h : ForwardingSound s) :
    ForwardingSound (continuityDeadlineExpiry u s) := by
  cases hd : (s.uplink u).deadline with
  | stopped => rwa [continuityDeadlineExpiry_stopped (.inl hd)]
  | suspended => rwa [continuityDeadlineExpiry_stopped (.inr hd)]
  | running e => rw [continuityDeadlineExpiry_running hd]; exact ForwardingSound.handOver (s := s.advanceTo e) h _ _

theorem passComplete_forwardingSound {s : State} (h : ForwardingSound s) : ForwardingSound (passComplete s) := by
  unfold passComplete
  split
  · rename_i p _
    obtain ⟨_, _, _, e, -⟩ := s.completePass_eq p
    rw [State.releaseReadGroup_frame, e]
    exact h
  · exact h

theorem lingerExpiry_forwardingSound {s : State} (h : ForwardingSound s) : ForwardingSound (lingerExpiry s) := by
  unfold lingerExpiry
  split <;> exact h

/-! ### Probes emitted (R32, R143) -/

theorem ForwardingSound.handProbe {s : State} (h : ForwardingSound s) (x : ProbeOut) :
    ForwardingSound (s.handProbe x) := by
  unfold State.handProbe
  split
  · rename_i hup
    obtain ⟨-, hport, -⟩ := forwardingSound_iff.1 h
    exact h.withFwd (.inl rfl) (hf :=
      { hport with probes := pairwise_replace ProbeOut.uplink hport.probes x, down := FwdState.down_of_up hup })
  · exact h

theorem ForwardingSound.emit {s : State} (h : ForwardingSound s) (u : Uplink) : ForwardingSound (s.emit u) := by
  cases hc : (s.uplink u).clock with
  | stopped => rwa [State.emit_stopped hc]
  | running start n =>
    rw [State.emit_running hc]
    exact ForwardingSound.handProbe (s := s.setUplink u _) h _

theorem ForwardingSound.emitAtStart {s : State} (h : ForwardingSound s) (u : Uplink) :
    ForwardingSound (s.emitAtStart u) := by
  unfold State.emitAtStart
  split
  · exact h.emit u
  · exact h

theorem probeEmission_forwardingSound (u : Uplink) {s : State} (h : ForwardingSound s) :
    ForwardingSound (probeEmission u s) := by
  unfold probeEmission
  split
  · rename_i e _
    exact ForwardingSound.emit (s := s.advanceTo e) h u
  · exact h

/-! ### The lanes -/

/-- R143: an answer refused, on a link that is UP. -/
theorem ForwardingSound.handRefusal {s : State} (h : ForwardingSound s) (hup : s.fwd.linkUp = true) (a : Answer) :
    ForwardingSound (s.handRefusal a) := by
  obtain ⟨-, hport, -⟩ := forwardingSound_iff.1 h
  rw [State.handRefusal_up a hup]
  obtain ⟨-, -, e⟩ := s.fwd.placeRefusal_spec a hport.refusals
  exact h.withFwd (hport.placeRefusal hup a) (.inl (by rw [e]))

/-- A condition of a lane evaluated, its signal handed for sending if `due`, on a link that is UP. -/
theorem ForwardingSound.signalledLane {s : State} (h : ForwardingSound s) {l : Lane} {x : LaneState} (hx : x.Sound l)
    (due : Prop) [Decidable due] (y : Signal) (hqueue : s.fwd.linkUp = false → x.queue = []) :
    ForwardingSound (s.withLane l x (if due then s.fwd.signalled y else s.fwd)) := by
  obtain ⟨-, hport, -⟩ := forwardingSound_iff.1 h
  have hlink : (if due then s.fwd.signalled y else s.fwd).linkUp = s.fwd.linkUp := by
    split
    · exact s.fwd.signalled_linkUp y
    · rfl
  refine h.withLane hx ?_ hlink fun hd => hqueue (hlink.symm.trans hd)
  split
  · exact hport.signalled y
  · exact hport

/-- R118, R121, R122: a request's arrival, which finds the link UP. -/
theorem ForwardingSound.laneArrival {s : State} (h : ForwardingSound s) (hup : s.fwd.linkUp = true) (q : Request) :
    ForwardingSound (s.laneArrival q) := by
  obtain ⟨hlanes, -, -⟩ := forwardingSound_iff.1 h
  have hlane := hlanes q.lane
  cases he : (s.lane q.lane).enabled with
  | false =>
    rw [State.laneArrival_disabled he]
    exact h.handRefusal hup _
  | true =>
    by_cases hroom : (s.lane q.lane).queue.length < 16
    · rw [State.laneArrival_queued he hroom]
      exact h.signalledLane (hlane.joined hroom) _ _ (FwdState.down_of_up hup)
    · rw [Nat.not_lt] at hroom
      have hrefused := h.handRefusal hup (refusalAnswer q.lane q.tag .overrun)
      rw [State.laneArrival_full he hroom]
      split
      · exact hrefused
      · obtain ⟨-, hport, -⟩ := forwardingSound_iff.1 hrefused
        have hlink : (s.handRefusal (refusalAnswer q.lane q.tag .overrun)).fwd.linkUp = true :=
          (State.handRefusal_sameMonitor _ s).2.1.trans hup
        exact hrefused.withLane (hlane.overrun hroom) hport rfl (FwdState.down_of_up hlink)

/-- R124: a service; a lane that has a request is one of an UP link. -/
theorem ForwardingSound.serve {s : State} (h : ForwardingSound s) {l : Lane} {q : Request} {rest : List Request}
    (hqueue : (s.lane l).queue = q :: rest) : ForwardingSound (s.serve l q rest) := by
  obtain ⟨hlanes, -, hempty⟩ := forwardingSound_iff.1 h
  have hup : s.fwd.linkUp = true := by
    refine Bool.of_not_eq_false fun hd => ?_
    have hnone : (s.lane l).queue = [] := (hempty hd).2 l
    rw [hqueue] at hnone
    cases hnone
  have htaken : ForwardingSound (s.headTaken l rest) :=
    ForwardingSound.signalledLane (s := { s with lookup := { s.lookup with lastServed := l } }) h
      ((hlanes l).headless hqueue) _ _ (FwdState.down_of_up hup)
  have hlink : (s.headTaken l rest).fwd.linkUp = true := by
    show (if ((s.lane l).headless rest).resumeDue = true then s.fwd.signalled _ else s.fwd).linkUp = true
    split
    · exact (s.fwd.signalled_linkUp _).trans hup
    · exact hup
  obtain ⟨hlanes, hport, -⟩ := forwardingSound_iff.1 htaken
  rw [State.serve_eq, State.noteUnplanned_frame]
  exact forwardingSound_iff.2 ⟨hlanes, hport, FwdState.down_of_up hlink⟩

theorem serviceBegin_forwardingSound {s : State} (h : ForwardingSound s) : ForwardingSound (serviceBegin s) := by
  unfold serviceBegin
  repeat' split
  · exact h
  · exact h
  · exact h
  · rename_i hqueue
    exact h.serve hqueue

/-! ### The link -/

/-- R139, R140: a valid record accepted leaves the link UP. -/
theorem ForwardingSound.acceptRecord {s : State} (h : ForwardingSound s) (k : InKind) :
    ForwardingSound (s.acceptRecord k) ∧ (s.acceptRecord k).fwd.linkUp = true := by
  obtain ⟨-, hport, -⟩ := forwardingSound_iff.1 h
  have haccepted := h.withFwd (hport.accepted { expiry := s.clock.now + ms s.fwd.silence, given := s.fwd.silence })
    (.inr rfl)
  cases hl : s.fwd.linkUp with
  | true =>
    have e : s.silenceRestarted = { s.fwd with linkUp := true, silenceTimer := s.silenceRestarted.silenceTimer } := by
      rw [← hl]
      rfl
    rw [State.acceptRecord_up k hl, e]
    exact ⟨haccepted, rfl⟩
  | false =>
    rw [State.acceptRecord, if_neg (by rw [hl]; exact Bool.false_ne_true)]
    exact ⟨haccepted.of_same rfl rfl, rfl⟩

theorem recordArrival_forwardingSound (r : Record) {s : State} (h : ForwardingSound s) :
    ForwardingSound (recordArrival r s) := by
  unfold recordArrival
  split
  · rename_i k _
    obtain ⟨haccepted, hup⟩ := h.acceptRecord k
    cases k with
    | sync => exact haccepted
    | lookupReq => exact haccepted.laneArrival hup _
    | probeIn => exact haccepted.handOver _ _
  · obtain ⟨-, hport, -⟩ := forwardingSound_iff.1 h
    exact h.withFwd hport.errorCounted (.inl rfl)

/-- R135, R141: the link going DOWN empties the lanes and the lists. -/
theorem silenceExpiry_forwardingSound {s : State} (h : ForwardingSound s) : ForwardingSound (silenceExpiry s) := by
  obtain ⟨hlanes, hport, -⟩ := forwardingSound_iff.1 h
  unfold silenceExpiry
  split
  · have hflush : ∀ l, s.flushLanes.lane l = (s.lane l).flush := fun l => vector_get_ofFn _ l
    refine forwardingSound_iff.2 ⟨fun l => ?_, hport.lost, fun _ => ⟨rfl, fun l => ?_⟩⟩
    · show (s.flushLanes.lane l).Sound l
      rw [hflush]
      exact (hlanes l).flush
    · show (s.flushLanes.lane l).queue = []
      rw [hflush]
      rfl
  · exact h

/-- R144: a record taken for sending leaves its list. -/
theorem recordTime_forwardingSound {s : State} (h : ForwardingSound s) : ForwardingSound (recordTime s) := by
  obtain ⟨hlanes, hport, -⟩ := forwardingSound_iff.1 h
  have hsync : ForwardingSound (s.send syncRecord) := h.withFwd { hport with } (.inl rfl)
  unfold recordTime
  split
  · exact hsync
  · rename_i hnot
    have hup : s.fwd.linkUp = true := by simpa using hnot
    split
    · rename_i a rest hr
      have hlength := hport.refusals
      rw [hr, List.length_cons] at hlength
      exact h.withFwd { hport with refusals := Nat.le_of_succ_le hlength, down := FwdState.down_of_up hup } (.inl rfl)
    · split
      · rename_i x rest hs
        exact h.withFwd { hport with signals := (hs ▸ hport.signals).of_cons, down := FwdState.down_of_up hup }
          (.inl rfl)
      · split
        · rename_i x rest hp
          exact h.withFwd { hport with probes := (hp ▸ hport.probes).of_cons, down := FwdState.down_of_up hup }
            (.inl rfl)
        · split
          · exact forwardingSound_iff.2 ⟨hlanes, { hport with }, FwdState.down_of_up hup⟩
          · exact hsync

/-! ### The commands -/

theorem doSetUplink_forwardingSound (f : UplinkFields) {s : State} (h : ForwardingSound s) :
    ForwardingSound (doSetUplink f s).1 := by
  cases hj : judgeSettings f with
  | bad e => rw [doSetUplink_bad hj]; exact h
  | good v =>
    rw [doSetUplink_good hj]
    unfold State.afterSettings
    simp only
    split
    · exact (h.handOver _ _).emitAtStart _
    · exact h.handOver _ _

theorem State.setAdmin_forwardingSound (u : Uplink) (m : AdminMode) {s : State} (h : ForwardingSound s) :
    ForwardingSound (s.setAdmin u m) := by
  unfold State.setAdmin
  simp only
  split
  · exact h
  · split
    · exact h.settleHealth _ _ _
    · split
      · unfold State.enableUplink
        simp only
        split
        · exact (h.settleHealth _ _ _).emitAtStart _
        · exact h.settleHealth _ _ _
      · exact h.settleHealth _ _ _

theorem doSetAdmin_forwardingSound (b mode : Byte) {s : State} (h : ForwardingSound s) :
    ForwardingSound (doSetAdmin b mode s).1 := by
  unfold doSetAdmin
  split
  · exact h
  · split
    · exact h
    · exact State.setAdmin_forwardingSound _ _ h

theorem doForceRestore_forwardingSound (b : Byte) {s : State} (h : ForwardingSound s) :
    ForwardingSound (doForceRestore b s).1 := by
  unfold doForceRestore
  split
  · exact h
  · split
    · exact h.settleHealth _ _ _
    · exact h

theorem doSetConduit_forwardingSound (b trip : Byte) {s : State} (h : ForwardingSound s) :
    ForwardingSound (doSetConduit b trip s).1 := by
  unfold doSetConduit
  split
  · exact h
  · rename_i c _
    exact ForwardingSound.evaluateUsability (m := s.setConduit c _) h _ _ _

theorem doSwap_forwardingSound {s : State} (h : ForwardingSound s) : ForwardingSound (doSwap s).1 := by
  unfold doSwap
  split
  · exact h
  · exact ForwardingSound.deliver (s := { s with plans := { s.plans with swapInFlight := true } }) h _ _

theorem doRebalance_forwardingSound (t : RebalanceTarget) {s : State} (h : ForwardingSound s) :
    ForwardingSound (doRebalance t s).1 := by
  unfold doRebalance
  repeat' split
  · exact h
  · exact h.deliver _ _
  · exact h.deliver _ _

/-- R123: a lane given marks in range, and its conditions evaluated. -/
theorem doSetLane_forwardingSound (l e p r : Byte) {s : State} (h : ForwardingSound s) :
    ForwardingSound (doSetLane l e p r s).1 := by
  unfold doSetLane
  split
  · exact h
  · rename_i l _
    split
    · exact h
    · rename_i e _
      obtain ⟨hlanes, -, hempty⟩ := forwardingSound_iff.1 h
      obtain ⟨-, hlength, hoverrun, hlane⟩ := (hlanes l).inBounds
      have hx := LaneState.InBounds.afterMarks (x := (s.lane l).marked e (clampMarks p r))
        ⟨clampMarks_bounds p r, hlength, hoverrun, hlane⟩
      have hdown : s.fwd.linkUp = false → ((s.lane l).marked e (clampMarks p r)).afterMarks.queue = [] := fun hd => by
        rw [LaneState.afterMarks_flags]
        exact (hempty hd).2 l
      have hmarks := s.evaluateMarks_setLane l ((s.lane l).marked e (clampMarks p r))
      unfold FwdState.marksSignalled at hmarks
      show ForwardingSound ((s.setLane l ((s.lane l).marked e (clampMarks p r))).evaluateMarks l)
      rw [hmarks]
      split
      · exact h.signalledLane hx _ _ hdown
      · exact h.signalledLane hx _ _ hdown

/-- R142: a silence time in range. -/
theorem doSetFwdlink_forwardingSound (t : Byte) {s : State} (h : ForwardingSound s) :
    ForwardingSound (doSetFwdlink t s).1 := by
  obtain ⟨-, hport, -⟩ := forwardingSound_iff.1 h
  exact h.withFwd { hport with silence := clampTo_bounds t.toNat (by decide) } (.inl rfl)

/-- R165: a command taken. -/
theorem takeCommand_forwardingSound (tag : Byte) (c : Command) {s : State} (h : ForwardingSound s) :
    ForwardingSound (takeCommand tag c s) := by
  cases c with
  | identify => exact h
  | getStatus =>
    obtain ⟨-, hport, -⟩ := forwardingSound_iff.1 h
    exact h.withFwd { hport with headerErrors := Nat.zero_le _ } (.inl rfl)
  | setTime t => exact h
  | setUplink f => exact doSetUplink_forwardingSound f h
  | getUplink u =>
    show ForwardingSound (doGetUplink u s).1
    unfold doGetUplink
    split <;> exact h
  | setAdmin u m => exact doSetAdmin_forwardingSound u m h
  | forceRestore u => exact doForceRestore_forwardingSound u h
  | clearLatch u =>
    show ForwardingSound (doClearLatch u s).1
    unfold doClearLatch
    split <;> exact h
  | setConduit d t => exact doSetConduit_forwardingSound d t h
  | writePlan f =>
    show ForwardingSound (doWritePlan f s).1
    unfold doWritePlan
    repeat' split
    all_goals exact h
  | clearPlan g =>
    show ForwardingSound (doClearPlan g s).1
    unfold doClearPlan
    repeat' split
    all_goals exact h
  | copyActive =>
    show ForwardingSound (doCopyActive s).1
    unfold doCopyActive
    split <;> exact h
  | readPlan g b =>
    show ForwardingSound (doReadPlan g b s).1
    unfold doReadPlan
    repeat' split
    all_goals exact h
  | swap => exact doSwap_forwardingSound h
  | readGroup g =>
    show ForwardingSound (takeReadGroup tag g s)
    unfold takeReadGroup
    repeat' split
    all_goals exact h
  | rebalance t => exact doRebalance_forwardingSound t h
  | setLane l e p r => exact doSetLane_forwardingSound l e p r h
  | setFwdlink t => exact doSetFwdlink_forwardingSound (s := s) t h
  | setAlert t l u =>
    show ForwardingSound (doSetAlert t l u s).1
    unfold doSetAlert
    split <;> exact h
  | fetchEvents n => exact h
  | reset => exact h

/-! ### Every step -/

/-- R136, R147: a reset leaves the lanes and the port as they are right after reset, but for the record being sent. -/
theorem State.toReset_forwardingSound (held : Bool) (s : State) : ForwardingSound (s.toReset held) :=
  State.reset_forwardingSound.withFwd (f := (s.toReset held).fwd)
    { (forwardingSound_iff.1 State.reset_forwardingSound).2.1 with } (.inl rfl)

theorem forwardingSound_keptByRows : KeptByRows ForwardingSound where
  control _ _ h := h
  command tag c _ h := takeCommand_forwardingSound tag c h
  reset held s _ := State.toReset_forwardingSound held s
  pending _ _ h := h
  tick h := by
    unfold State.tick
    split <;> exact h
  release h := h
  losEdge u level _ h := losEdge_forwardingSound u level h
  lossQualifyExpiry u _ h := lossQualifyExpiry_forwardingSound u h
  lightQualifyExpiry u _ h := lightQualifyExpiry_forwardingSound u h
  holdOffExpiry u _ h := holdOffExpiry_forwardingSound u h
  waitToRestoreExpiry u _ h := waitToRestoreExpiry_forwardingSound u h
  probeEmission u _ h := probeEmission_forwardingSound u h
  continuityDeadlineExpiry u _ h := continuityDeadlineExpiry_forwardingSound u h
  recordArrival r _ h := recordArrival_forwardingSound r h
  countHeaderError h := h.withFwd (forwardingSound_iff.1 h).2.1.errorCounted (.inl rfl)
  silenceExpiry h := silenceExpiry_forwardingSound h
  serviceBegin h := serviceBegin_forwardingSound h
  recordTime h := recordTime_forwardingSound h
  passBegin {s} h := by
    rw [passBegin_frame]
    exact h
  passComplete h := passComplete_forwardingSound h
  lingerExpiry h := lingerExpiry_forwardingSound h

/-- Settles O55: every row and every command keeps the lanes and the port sound. -/
theorem stepsKeepLanesAndLinkSound : Obligations.StepsKeepLanesAndLinkSound := fun _ _ h ht =>
  forwardingSound_keptByRows.step h ht

end Sys2Proof.Machine
end

section
/-! Requests at the lanes (O37), services (O38), SET-LANE (O40) and record times (O43). -/

namespace Sys2Proof.Machine

/-! ### A LOOKUP-REQ (R118 to R122) -/

/-- R139, R118: a LOOKUP-REQ on an UP link restarts the silence timer and arrives at its lane. -/
theorem recordArrival_lookupReq {s : State} {r : Record} (hl : s.fwd.linkUp = true)
    (hr : r.classify = .valid .lookupReq) :
    recordArrival r s = ({ s with fwd := s.silenceRestarted } : State).laneArrival (Record.request r) := by
  rw [recordArrival_valid s hr, State.acceptRecord_up .lookupReq hl]
  rfl

/-- R122, R119: the lane that a request has joined, once its pause condition is evaluated. -/
theorem LaneState.joined_afterPause (x : LaneState) (q : Request) : (x.joined q).afterPause =
    { x with queue := x.queue ++ [q], paused := x.paused || decide (x.pauseMark ≤ x.queue.length + 1) } := by
  rw [← List.length_singleton (a := q), ← List.length_append]
  rfl

theorem LaneState.joined_pauseDue {x : LaneState} {q : Request} :
    (x.joined q).pauseDue = true ↔ x.paused = false ∧ x.pauseMark ≤ x.queue.length + 1 := by
  rw [LaneState.pauseDue_iff, ← List.length_singleton (a := q), ← List.length_append]
  rfl

section Up
variable {s : State} {q : Request} (hup : s.fwd.linkUp = true)
include hup

/-- R118: a request at a disabled lane is answered REFUSED. -/
theorem State.laneArrival_refused (h : (s.lane q.lane).enabled = false) :
    s.laneArrival q = { s with fwd := s.fwd.placeRefusal (refusalAnswer q.lane q.tag .refused) } := by
  rw [State.laneArrival_disabled h, State.handRefusal_up _ hup]

/-- R121: a request at a full lane is answered OVERRUN; the lane's flag is set, and LANE-OVERRUN queued if it was
clear. -/
theorem State.laneArrival_overruns (h : (s.lane q.lane).enabled = true)
    (hfull : 16 ≤ (s.lane q.lane).queue.length) :
    s.laneArrival q = { s.withLane q.lane { s.lane q.lane with overrun := true }
        (s.fwd.placeRefusal (refusalAnswer q.lane q.tag .overrun)) with
      events := if (s.lane q.lane).overrun then s.events
        else (s.raise (.laneOverrun q.lane q.tag)).events } := by
  rw [State.laneArrival_full h hfull, State.handRefusal_up _ hup]
  cases ho : (s.lane q.lane).overrun with
  | true =>
    have e : ({ s.lane q.lane with overrun := true } : LaneState) = s.lane q.lane := by rw [← ho]
    rw [e, State.withLane, State.setLane_same]
    rfl
  | false => rfl

/-- An arrival writes its lane, the forwarding port and the event queue. -/
theorem State.laneArrival_writes : ∃ x f events, s.laneArrival q = { s.withLane q.lane x f with events } := by
  cases he : (s.lane q.lane).enabled with
  | false =>
    refine ⟨s.lane q.lane, s.fwd.placeRefusal (refusalAnswer q.lane q.tag .refused), s.events, ?_⟩
    rw [State.laneArrival_refused hup he, State.withLane, State.setLane_same]
  | true =>
    by_cases hroom : (s.lane q.lane).queue.length < 16
    · exact ⟨((s.lane q.lane).joined q).afterPause, if ((s.lane q.lane).joined q).pauseDue then
        s.fwd.signalled { lane := q.lane, pause := true } else s.fwd, s.events, State.laneArrival_queued he hroom⟩
    · exact ⟨_, _, _, State.laneArrival_overruns hup he (Nat.not_lt.1 hroom)⟩

end Up

/-- Settles O37, by the lane found: disabled, full, or with room. -/
theorem lookupArrivalsAreQueuedOrRefused : Obligations.LookupArrivalsAreQueuedOrRefused := by
  intro r s hheld hup hclass l hl x tag refused base placed framed
  obtain rfl : (Record.request r).lane = l := Fin.ext hl.symm
  obtain ⟨m, hm⟩ : ∃ m : State, m = { s with fwd := base } := ⟨_, rfl⟩
  have hmup : m.fwd.linkUp = true := by rw [hm]; exact hup
  have hlane : m.lane (Record.request r).lane = x := by rw [hm]; rfl
  have hplaced : ∀ a t, t.fwd = m.fwd.placeRefusal a → placed t a := fun a t ht => by
    rw [hm] at ht
    unfold placed
    rw [ht]
    exact ⟨FwdState.placeRefusal_room (f := base) a, fun _ _ => FwdState.placeRefusal_full (f := base) a⟩
  rw [exec_lookupReqReceived hheld, recordArrival_lookupReq hup hclass, ← hm]
  refine ⟨_, rfl, ?_, fun he => ?_, fun he hfull => ?_, fun he hroom => ?_⟩
  · obtain ⟨y, f, events, e⟩ := State.laneArrival_writes (q := Record.request r) hmup
    rw [e, hm]
    exact ⟨rfl, rfl, rfl, fun k hk => State.lane_withLane_other hk _ y f⟩
  · rw [State.laneArrival_refused hmup (hlane.symm ▸ he)]
    exact ⟨hlane, by rw [hm], hplaced _ _ rfl⟩
  · rw [State.laneArrival_overruns hmup (hlane.symm ▸ he) (hlane.symm ▸ hfull), hlane]
    refine ⟨State.lane_setLane_self m _ _, hplaced _ _ rfl, fun ho => ?_, fun ho => ?_⟩
    · exact (if_pos ho).trans (by rw [hm])
    · exact State.raiseAll_hands (m := m) _ (by rw [hm]) rfl (if_neg (by rw [ho]; exact Bool.false_ne_true))
  · rw [State.laneArrival_queued (hlane.symm ▸ he) (hlane.symm ▸ hroom), hlane]
    refine ⟨by rw [hm]; rfl, ?_, fun hdue => ?_, fun hnot => ?_⟩
    · exact (State.lane_withLane_self _ _ _ _).trans (LaneState.joined_afterPause _ _)
    · exact (if_pos (LaneState.joined_pauseDue.2 hdue)).trans ((if_pos hmup).trans (by rw [hm]; rfl))
    · refine (if_neg fun hdue => ?_).trans (by rw [hm])
      obtain ⟨hp, hle⟩ := LaneState.joined_pauseDue.1 hdue
      exact hnot.elim (fun h => Bool.false_ne_true (hp.symm.trans h)) (Nat.not_lt.2 hle)

/-! ### A service (R124, R129) -/

theorem exec_serviceBegin {s : State} (hr : s.resetHeld = false) :
    exec .serviceBegin s = .next (serviceBegin s) := whenRunning_of_released hr serviceBegin

/-- R119, R143: a signal handed for sending by a condition that holds, on a link that is UP. -/
theorem FwdState.signalled_if (f : FwdState) (due : Prop) [Decidable due] (x : Signal) :
    (if due then f.signalled x else f) = if due ∧ f.linkUp = true then
      { f with signals := f.signals.filter (fun y => y.lane ≠ x.lane) ++ [x] } else f := by
  unfold FwdState.signalled
  rw [ite_and]

/-- R129: of the groups, a lookup writes the flag of the one it names, if that is unplanned. -/
theorem State.noteUnplanned_group (s : State) (q : Request) (g : Group) :
    (s.noteUnplanned q).group g = if q.group.toNat = g.val ∧ (s.servedPlan g).members = [] then
      { s.group g with unplannedHit := true } else s.group g := by
  by_cases hnote : ∃ k, q.group? = some k ∧ (s.servedPlan k).planned = false ∧ (s.group k).unplannedHit = false
  · obtain ⟨k, hk, hp, hh⟩ := hnote
    have hmembers : (s.servedPlan k).members = [] := by simpa [Plan.planned] using hp
    rw [State.noteUnplanned_noted hk hp hh, State.raise_group, State.group_setGroup]
    rw [Request.group?_eq_some] at hk
    by_cases hkg : k = g
    · rw [if_pos hkg, ← hkg, if_pos ⟨hk, hmembers⟩]
    · rw [if_neg hkg, if_neg fun h => hkg (Fin.ext (hk.symm.trans h.1))]
  · rw [State.noteUnplanned_nothing fun k hk => ?_]
    · split
      · rename_i h
        obtain ⟨hg, hmembers⟩ := h
        have hh : (s.group g).unplannedHit = true := Bool.of_not_eq_false fun hh =>
          hnote ⟨g, Request.group?_eq_some.2 hg, Plan.planned_eq_false hmembers, hh⟩
        rw [← hh]
      · rfl
    · by_contra hc
      rw [not_or, Bool.not_eq_true, Bool.not_eq_true] at hc
      exact hnote ⟨k, hk, hc⟩

/-- Settles O38: the lane chosen is served, and its service is the head taken, the answer held and the lookup noted. -/
theorem serviceTakesTheNextLane : Obligations.ServiceTakesTheNextLane := by
  intro s hheld
  refine ⟨?_, fun h => by rw [exec_serviceBegin hheld, serviceBegin_nothing h]⟩
  · intro l q rest d hidle h1 h4 hl hqueue hbefore x resumes unplanned
    have hchoose := State.chooseLane_eq_some h1 h4 hl (by rw [hqueue]; exact List.cons_ne_nil q rest) hbefore
    have hframe := (s.headTaken l rest).noteUnplanned_frame q
    have hgroup := (s.headTaken l rest).noteUnplanned_group q
    rw [exec_serviceBegin hheld, serviceBegin_serves hidle hchoose hqueue, State.serve_eq]
    refine ⟨_, rfl, ?_, rfl, rfl, State.lane_setLane_self _ l _, fun k hk => ?_, ?_, fun g hg => ?_, fun g hg => ?_,
      fun g hg hh => ?_, fun hall => ?_⟩
    · rw [hframe]
      rfl
    · exact State.lane_setLane_other hk _ _
    · rw [hframe]
      exact s.fwd.signalled_if _ _
    · exact (hgroup g).trans (if_pos hg)
    · exact (hgroup g).trans (if_neg hg)
    · obtain ⟨hnumber, hmembers⟩ := hg
      have hnoted := State.noteUnplanned_noted (s := s.headTaken l rest) (Request.group?_eq_some.2 hnumber)
        (Plan.planned_eq_false hmembers) hh
      exact State.raiseAll_hands (m := (s.headTaken l rest).setGroup g { s.group g with unplannedHit := true }) _ rfl
        (by rw [hnoted]; rfl) (by rw [hnoted]; rfl)
    · have hnothing := State.noteUnplanned_nothing (s := s.headTaken l rest) (q := q) fun g hg => by
        by_cases hp : (s.servedPlan g).members = []
        · exact .inr (hall g ⟨Request.group?_eq_some.1 hg, hp⟩)
        · exact .inl (Plan.planned_iff.2 hp)
      exact (congrArg State.events hnothing :)

/-! ### SET-LANE (R123) -/

theorem exec_setLane {s : State} (hs : s.PortFree) (tag lane enabled pauseMark resumeMark : Byte) :
    exec (.setLane tag lane enabled pauseMark resumeMark) s =
      .next (finish 0x30#8 tag (doSetLane lane enabled pauseMark resumeMark s)) :=
  exec_rowOf hs tag (.setLane lane enabled pauseMark resumeMark)

theorem judgeLane_some {b : Byte} {l : Lane} (h : b.toNat = l.val) : judgeLane b = some l := by
  unfold judgeLane
  rw [dif_pos (by omega)]
  exact congrArg some (Fin.ext h)

theorem judgeLane_none {b : Byte} (h : 3 < b.toNat) : judgeLane b = none := by
  unfold judgeLane
  rw [dif_neg (by omega)]

theorem clampTo_eq {lo hi : Nat} (h : lo ≤ hi) (n : Nat) : clampTo lo hi n = max lo (min hi n) := by
  unfold clampTo
  split
  · omega
  · split <;> omega

/-- R123: the pause mark at its nearest bound, the resume mark below it. -/
theorem clampMarks_eq (p r : Byte) :
    clampMarks p r = (max 2 (min 16 p.toNat), min (max 2 (min 16 p.toNat) - 1) r.toNat) := by
  show (clampTo 2 16 p.toNat, clampTo 0 (clampTo 2 16 p.toNat - 1) r.toNat) = _
  rw [clampTo_zero_eq, clampTo_eq (by decide)]

/-- R123: a SET-LANE that passes its checks. -/
theorem doSetLane_good {s : State} {lane enabled : Byte} {l : Lane} (p r : Byte) (hl : lane.toNat = l.val)
    (he : enabled.toNat ≤ 1) :
    doSetLane lane enabled p r s =
      (s.withLane l ((s.lane l).marked (decide (enabled = 1#8)) (clampMarks p r)).afterMarks
          (s.fwd.marksSignalled l ((s.lane l).marked (decide (enabled = 1#8)) (clampMarks p r))),
        .ok ((clampMarks p r).1 ≠ p.toNat || (clampMarks p r).2 ≠ r.toNat)
          ((s.lane l).marked (decide (enabled = 1#8)) (clampMarks p r)).afterMarks.items) := by
  have hmarks := s.evaluateMarks_setLane l ((s.lane l).marked (decide (enabled = 1#8)) (clampMarks p r))
  unfold doSetLane
  simp only [judgeLane_some hl, judgeFlag_of_le he]
  rw [← hmarks]
  have hlane := congrArg (fun t : State => t.lane l) hmarks
  simp only [State.lane_withLane_self] at hlane
  rw [← hlane]
  rfl

/-- R119, R123: a lane found clear pauses at its pause mark, one found paused resumes at its resume mark, and any other
stays. -/
theorem LaneState.afterMarks_pauses {x : LaneState} (l : Lane) (f : FwdState) (hp : x.paused = false)
    (hle : x.pauseMark ≤ x.queue.length) : x.afterMarks = { x with paused := true }
      ∧ f.marksSignalled l x = f.signalled { lane := l, pause := true } := by
  have hdue := LaneState.pauseDue_iff.2 ⟨hp, hle⟩
  unfold LaneState.afterMarks FwdState.marksSignalled
  rw [hp]
  exact ⟨LaneState.afterPause_of_due hdue, if_pos hdue⟩

theorem LaneState.afterMarks_resumes {x : LaneState} (l : Lane) (f : FwdState) (hp : x.paused = true)
    (hle : x.queue.length ≤ x.resumeMark) : x.afterMarks = { x with paused := false, overrun := false }
      ∧ f.marksSignalled l x = f.signalled { lane := l, pause := false } := by
  have hdue := LaneState.resumeDue_iff.2 ⟨hp, hle⟩
  unfold LaneState.afterMarks FwdState.marksSignalled
  rw [hp]
  exact ⟨LaneState.afterResume_of_due hdue, if_pos hdue⟩

theorem LaneState.afterMarks_stays {x : LaneState} (l : Lane) (f : FwdState)
    (h : if x.paused then x.resumeMark < x.queue.length else x.queue.length < x.pauseMark) :
    x.afterMarks = x ∧ f.marksSignalled l x = f := by
  unfold LaneState.afterMarks FwdState.marksSignalled
  cases hp : x.paused with
  | true =>
    rw [hp, if_pos rfl] at h
    have hdue : ¬ x.resumeDue = true := fun hdue => Nat.not_le.2 h (LaneState.resumeDue_iff.1 hdue).2
    exact ⟨LaneState.afterResume_of_not_due hdue, if_neg hdue⟩
  | false =>
    rw [hp, if_neg Bool.false_ne_true] at h
    have hdue : ¬ x.pauseDue = true := fun hdue => Nat.not_le.2 h (LaneState.pauseDue_iff.1 hdue).2
    exact ⟨LaneState.afterPause_of_not_due hdue, if_neg hdue⟩

/-- Settles O40: the refusals, and then the lane by the one condition that its paused flag leaves open. -/
theorem setLaneEvaluatesTheMarks : Obligations.SetLaneEvaluatesTheMarks := by
  intro tag lane enabled pauseMark resumeMark s hs row refused
  have hrow := exec_setLane hs tag lane enabled pauseMark resumeMark
  refine ⟨fun hl => replies_only (by rw [hrow, doSetLane, judgeLane_none hl]; rfl), fun hl he => ?_, ?_⟩
  · have hlane := judgeLane_some (l := ⟨lane.toNat, Nat.lt_succ_of_le hl⟩) rfl
    exact replies_only (by rw [hrow]; simp only [doSetLane, hlane, judgeFlag_of_gt he, refuse])
  · intro l hl he x p r y flag signalled
    obtain ⟨t, ht⟩ : ∃ t, t = finish 0x30#8 tag (s.withLane l y.afterMarks (s.fwd.marksSignalled l y),
        .ok (p ≠ pauseMark.toNat || r ≠ resumeMark.toNat) y.afterMarks.items) := ⟨_, rfl⟩
    have hrow : exec row s = .next t := by
      rw [ht, hrow, doSetLane_good pauseMark resumeMark hl he, clampMarks_eq]
      rfl
    have hlane : t.lane l = y.afterMarks := by
      rw [ht]
      exact State.lane_setLane_self s l _
    have hfwd : t.fwd = s.fwd.marksSignalled l y := by
      rw [ht]
      rfl
    have stays : (if x.paused then r < x.queue.length else x.queue.length < p) → t.lane l = y ∧ t.fwd = s.fwd :=
      fun h => by
        obtain ⟨e, hf⟩ := LaneState.afterMarks_stays (x := y) l s.fwd h
        exact ⟨hlane.trans e, hfwd.trans hf⟩
    refine ⟨t, hrow, by rw [ht]; rfl, by rw [ht]; rfl, by rw [ht]; rfl,
      fun k hk => by rw [ht]; exact State.lane_setLane_other hk s _, fun hp hle => ?_,
      fun hp hlt => stays (by rw [hp]; exact hlt), fun hp hle => ?_, fun hp hlt => stays (by rw [hp]; exact hlt), ?_⟩
    · obtain ⟨e, hf⟩ := LaneState.afterMarks_pauses (x := y) l s.fwd hp hle
      exact ⟨hlane.trans e, hfwd.trans hf⟩
    · obtain ⟨e, hf⟩ := LaneState.afterMarks_resumes (x := y) l s.fwd hp hle
      exact ⟨hlane.trans e, hfwd.trans hf⟩
    · have hitems : y.afterMarks.items = [flag y.afterMarks.enabled, byte p, byte r, byte x.queue.length,
          flag y.afterMarks.paused, flag y.afterMarks.overrun] := by
        rw [LaneState.afterMarks_flags]
        rfl
      rw [hlane, Bool.decide_or, ← hitems, ht]
      exact State.answers_finish _ _ _ rfl

/-! ### Record times (R144) -/

theorem exec_recordTime {s : State} (hr : s.resetHeld = false) : exec .recordTime s = .next (recordTime s) :=
  whenRunning_of_released hr recordTime

/-- Settles O43: the sources in their order, each read once those before it are empty. -/
theorem recordTimesFollowThePriority : Obligations.RecordTimesFollowThePriority := by
  intro s hheld sends
  have hsends : ∀ (t : State) (r : Record), recordTime s = t.send r → sends t r := fun t r h =>
    (exec_recordTime hheld).trans (congrArg _ h)
  refine ⟨fun hdown => hsends _ _ ?_, fun hup => ⟨fun a rest hr => hsends _ _ ?_, fun hr =>
    ⟨fun x rest hs => hsends _ _ ?_, fun hs => ⟨fun x rest hp => hsends _ _ ?_, fun hp =>
      ⟨fun a ha => hsends _ _ ?_, fun ha => hsends _ _ ?_⟩⟩⟩⟩⟩
  · simp only [recordTime, hdown, Bool.not_false, if_true]
  · simp only [recordTime, hup, hr, Bool.not_true, Bool.false_eq_true, if_false]
  · simp only [recordTime, hup, hr, hs, Bool.not_true, Bool.false_eq_true, if_false]
  · simp only [recordTime, hup, hr, hs, hp, Bool.not_true, Bool.false_eq_true, if_false]
  · simp only [recordTime, hup, hr, hs, hp, ha, Bool.not_true, Bool.false_eq_true, if_false]
  · simp only [recordTime, hup, hr, hs, hp, ha, Bool.not_true, Bool.false_eq_true, if_false]

end Sys2Proof.Machine
end

section
/-! The decision chain of a lookup (O39). -/

namespace Sys2Proof.Machine

/-! ### One group read (R130, R131) -/

/-- R84: a planned group has a current slot in every bucket, with its member. -/
theorem ArraysSound.current {s : State} (h : ArraysSound s) {g : Group} (hp : (s.servedPlan g).members ≠ [])
    (b : BucketNo) : ∃ k m, ((s.servedArray g).get b).current = some k ∧ (s.servedPlan g).members[k.val]? = some m := by
  obtain ⟨_, k, hb, -, -, hk⟩ := (arraysSound_iff.1 h g).array (Plan.planned_iff.2 hp) b
  exact ⟨k, _, congrArg Bucket.current hb, List.getElem?_eq_getElem hk⟩

/-- R130, R131: a group read at a bucket whose current slot is `k`. -/
theorem State.readFor_current {s : State} {g : Group} {hash : Half} {k : Slot}
    (hk : ((s.servedArray g).get (foldHash (s.servedPlan g).fold hash)).current = some k) :
    s.readFor g hash =
      { bucket := foldHash (s.servedPlan g).fold hash, direct := (s.servedPlan g).usableUplink s.usableFlags k,
        standIn := standIn (s.servedPlan g) s.usableFlags k } := by
  simp only [State.readFor, hk]

/-- R130: the uplink of a slot's member, by its usable flag. -/
theorem Plan.usableUplink_usable {p : Plan} {flags : UplinkSet} {k : Slot} {m : Member}
    (hm : p.members[k.val]? = some m) (hu : flags.get m.uplink = true) :
    p.usableUplink flags k = some m.uplink := by
  simp only [Plan.usableUplink, Plan.member, hm, hu, if_true]

theorem Plan.usableUplink_unusable {p : Plan} {flags : UplinkSet} {k : Slot} {m : Member}
    (hm : p.members[k.val]? = some m) (hu : flags.get m.uplink = false) : p.usableUplink flags k = none := by
  simp only [Plan.usableUplink, Plan.member, hm, hu, Bool.false_eq_true, if_false]

theorem State.usableFlags_get (s : State) (u : Uplink) : s.usableFlags.get u = (s.uplink u).usable :=
  vector_get_ofFn _ u

/-- R95, R96: a group has no stand-in exactly when its plan has no usable member. -/
theorem PlansWellFormed.standIn_eq_none_iff {s : State} (h : PlansWellFormed s) {g : Group} {k : Slot} {m : Member}
    (hm : (s.servedPlan g).members[k.val]? = some m) :
    standIn (s.servedPlan g) s.usableFlags k = none ↔ ¬ s.someUsable (s.servedPlan g) := by
  obtain ⟨hlength, -⟩ : (s.servedPlan g).WellFormed g := h _ g
  obtain ⟨hk, -⟩ := List.getElem?_eq_some_iff.1 hm
  rw [(standInIsTheNextUsableSlot _ s.usableFlags k hlength hk).2]
  simp only [State.usableFlags_get, State.someUsable, not_exists, not_and, Bool.not_eq_true]

/-- R134: UNSETTLED tells that a group is marked or under a pass. -/
theorem State.unsettled_eq (s : State) (g : Group) : s.unsettled g =
    ((GroupMap.find s.sweep.dirty g).isSome || s.sweep.pass.any fun p => p.group = g) := by
  unfold State.unsettled
  cases s.sweep.pass <;> rfl

/-- R132: what a planned fallback group gives: its current member's uplink or its stand-in's. -/
theorem State.fallbackUplink_current {s : State} {f : Group} {hash : Half} {k : Slot}
    (hp : (s.servedPlan f).members ≠ [])
    (hk : ((s.servedArray f).get (foldHash (s.servedPlan f).fold hash)).current = some k) :
    s.fallbackUplink f hash =
      (((s.servedPlan f).usableUplink s.usableFlags k).or (standIn (s.servedPlan f) s.usableFlags k)).map
        fun u => (foldHash (s.servedPlan f).fold hash, u) := by
  simp only [State.fallbackUplink, Plan.planned_iff.2 hp, Bool.not_true, Bool.false_eq_true, if_false,
    State.readFor_current hk]
  cases ((s.servedPlan f).usableUplink s.usableFlags k).or (standIn (s.servedPlan f) s.usableFlags k) <;> rfl

/-- R132: a fallback group that is not planned gives none. -/
theorem State.fallbackUplink_unplanned {s : State} {f : Group} (hp : (s.servedPlan f).members = []) (hash : Half) :
    s.fallbackUplink f hash = none := by
  simp only [State.fallbackUplink, Plan.planned_eq_false hp, Bool.not_false, if_true]

/-! ### The checks in their order (R127 to R133) -/

section Checks
variable {s : State} {q : Request} {g : Group}

/-- R128. -/
theorem State.answerTo_range (h : 1024 ≤ q.group.toNat) :
    s.answerTo q = { q.answer .punt none none false with range := true } := by
  simp only [State.answerTo, Request.group?_eq_none.2 h]

/-- R129. -/
theorem State.answerTo_unplanned (hg : q.group.toNat = g.val) (hp : (s.servedPlan g).members = []) :
    s.answerTo q = { q.answer .punt none none false with unplanned := true } := by
  simp only [State.answerTo, Request.group?_eq_some.2 hg, Plan.planned_eq_false hp, Bool.false_eq_true, if_false]

theorem State.answerTo_planned (hg : q.group.toNat = g.val) (hp : (s.servedPlan g).members ≠ []) :
    s.answerTo q = s.decidePlanned q g := by
  simp only [State.answerTo, Request.group?_eq_some.2 hg, Plan.planned_iff.2 hp, if_true]

/-- R130. -/
theorem State.decidePlanned_forward {u : Uplink} (h : (s.readFor g q.hash).direct = some u) :
    s.decidePlanned q g = q.answer .forward (some u) (some (s.readFor g q.hash).bucket) (s.unsettled g) := by
  simp only [State.decidePlanned, h]

/-- R131. -/
theorem State.decidePlanned_standin {u : Uplink} (h : (s.readFor g q.hash).direct = none)
    (hs : (s.readFor g q.hash).standIn = some u) :
    s.decidePlanned q g = q.answer .standin (some u) (some (s.readFor g q.hash).bucket) (s.unsettled g) := by
  simp only [State.decidePlanned, h, hs]

/-- R132. -/
theorem State.decidePlanned_fallback {f : Group} {b : BucketNo} {u : Uplink}
    (h : (s.readFor g q.hash).direct = none) (hs : (s.readFor g q.hash).standIn = none)
    (hf : (s.servedPlan g).fallback = some f) (hu : s.fallbackUplink f q.hash = some (b, u)) :
    s.decidePlanned q g = q.answer .fallback (some u) (some b) (s.unsettled f) := by
  simp only [State.decidePlanned, h, hs, hf, hu, Option.bind_some, Option.map_some]

/-- R133. -/
theorem State.decidePlanned_empty (h : (s.readFor g q.hash).direct = none)
    (hs : (s.readFor g q.hash).standIn = none)
    (hf : ∀ f, (s.servedPlan g).fallback = some f → s.fallbackUplink f q.hash = none) :
    s.decidePlanned q g = q.answer (s.servedPlan g).emptyAction.result none (some (s.readFor g q.hash).bucket)
      (s.unsettled g) := by
  have hnone : ((s.servedPlan g).fallback.bind fun f => (s.fallbackUplink f q.hash).map fun x => (f, x)) = none := by
    cases hg : (s.servedPlan g).fallback with
    | none => rfl
    | some f => simp only [Option.bind_some, hf f hg, Option.map_none]
  simp only [State.decidePlanned, h, hs, hnone]

end Checks

/-- R132: a fallback group with no usable member gives none. -/
theorem State.fallbackUplink_spent {s : State} (hwf : PlansWellFormed s) (harrays : ArraysSound s) {f : Group}
    (h : ¬ s.someUsable (s.servedPlan f)) (hash : Half) : s.fallbackUplink f hash = none := by
  by_cases hp : (s.servedPlan f).members = []
  · exact State.fallbackUplink_unplanned hp hash
  · obtain ⟨k, m, hk, hm⟩ := harrays.current hp (foldHash (s.servedPlan f).fold hash)
    have hu : s.usableFlags.get m.uplink = false := Bool.eq_false_iff.2 fun hu =>
      h ⟨m, List.mem_of_getElem? hm, (s.usableFlags_get _).symm.trans hu⟩
    rw [State.fallbackUplink_current hp hk, Plan.usableUplink_unusable hm hu, (hwf.standIn_eq_none_iff hm).2 h]
    rfl

/-- Settles O39: each check by its own rule, in the order in which the chain comes to it. -/
theorem lookupsFollowTheDecisionChain : Obligations.LookupsFollowTheDecisionChain := by
  intro q s hwf harrays flags busy answer current bucket uses
  have hflags : flags = s.usableFlags := rfl
  clear_value flags
  subst hflags
  have hbusy : ∀ g, s.unsettled g = busy g := s.unsettled_eq
  refine ⟨State.answerTo_range, fun g hg => ⟨State.answerTo_unplanned hg, fun hp => ?_⟩⟩
  obtain ⟨k, m, hk, hm⟩ := harrays.current hp (bucket g)
  have hread := State.readFor_current hk
  have hnodirect : s.usableFlags.get m.uplink = false → (s.readFor g q.hash).direct = none := fun hu => by
    rw [hread]
    exact Plan.usableUplink_unusable hm hu
  rw [State.answerTo_planned hg hp]
  refine ⟨k, m.uplink, hk, ⟨m, hm, rfl⟩, fun hu => ?_, fun hu v hv => ?_,
    fun hu hnone => ⟨fun f hf hsome => ?_, fun hspent => ?_⟩⟩
  · rw [State.decidePlanned_forward (by rw [hread]; exact Plan.usableUplink_usable hm hu), hread, hbusy]
    rfl
  · rw [State.decidePlanned_standin (hnodirect hu) (by rw [hread]; exact hv), hread, hbusy]
    rfl
  · obtain ⟨x, hx, -⟩ := id hsome
    have hpf : (s.servedPlan f).members ≠ [] := List.ne_nil_of_mem hx
    obtain ⟨j, n, hj, hn⟩ := harrays.current hpf (bucket f)
    have hgives := State.fallbackUplink_current hpf hj
    have hanswer : ∀ w, s.fallbackUplink f q.hash = some (bucket f, w) →
        s.decidePlanned q g = answer .fallback (some w) (some (bucket f)) (busy f) := fun w hw => by
      rw [State.decidePlanned_fallback (hnodirect hu) (by rw [hread]; exact hnone) hf hw, hbusy]
      rfl
    refine ⟨j, n.uplink, hj, ⟨n, hn, rfl⟩, fun hw => hanswer _ ?_, fun hw => ?_⟩
    · rw [hgives, Plan.usableUplink_usable hn hw]
      rfl
    · obtain ⟨v, hv⟩ := Option.ne_none_iff_exists'.1 fun h => (hwf.standIn_eq_none_iff hn).1 h hsome
      refine ⟨v, hv, hanswer _ ?_⟩
      rw [hgives, Plan.usableUplink_unusable hn hw, hv]
      rfl
  · have hgives : ∀ f, (s.servedPlan g).fallback = some f → s.fallbackUplink f q.hash = none := fun f hf =>
      State.fallbackUplink_spent hwf harrays (hspent f hf) q.hash
    rw [State.decidePlanned_empty (hnodirect hu) (by rw [hread]; exact hnone) hgives, hread, hbusy]
    cases (s.servedPlan g).emptyAction <;> rfl

end Sys2Proof.Machine
end

section
/-! The bytes of outward records and of reply frames (O44). -/

namespace Sys2Proof.Machine

/-! ### Outward records (R178) -/

/-- Section 11.2: the check byte makes the sum of the eight bytes 0. -/
theorem Record.sealed_sum (b0 b1 b2 b3 b4 b5 b6 : Byte) : (Record.sealed b0 b1 b2 b3 b4 b5 b6).sum = 0#8 :=
  add_neg_cancel (b0 + b1 + b2 + b3 + b4 + b5 + b6)

/-- R178: LOOKUP-ANS byte 1: the lane in bits 7-6, the result in bits 2-0, and nothing between. -/
theorem laneBits_or_code (l : Lane) (r : LookupResult) :
    ((laneBits l ||| r.code).extractLsb' 6 2).toNat = l.val
      ∧ (laneBits l ||| r.code).extractLsb' 0 3 = r.code.extractLsb' 0 3
      ∧ (laneBits l ||| r.code).extractLsb' 3 3 = 0#3 := by
  revert l
  cases r <;> decide

/-- R177: the two bytes of a field, and the field they make. -/
theorem half_extractLsb' (h : Half) : h.extractLsb' 8 8 ++ h.extractLsb' 0 8 = h := by
  rw [BitVec.extractLsb'_append_extractLsb'_eq_extractLsb' (by decide)]
  exact BitVec.extractLsb'_eq_self

/-- R134: the three flags of LOOKUP-ANS byte 6. -/
theorem flags_byte : ∀ range unplanned unsettled : Bool,
    let b := byte (range.toNat + 2 * unplanned.toNat + 4 * unsettled.toNat)
    b.getLsbD 0 = range ∧ b.getLsbD 1 = unplanned ∧ b.getLsbD 2 = unsettled ∧ b.extractLsb' 3 5 = 0#5 := by decide

/-! ### Frames (section 11.3) -/

/-- The sum of bytes modulo 65,536, as a number. -/
theorem byteSum_toNat (bs : List Byte) : (byteSum bs).toNat = bs.foldl (fun n x => n + x.toNat) 0 % 65536 := by
  suffices h : ∀ (n : Nat) (a : Half), a.toNat = n % 65536 →
      (bs.foldl (fun a b => a + b.zeroExtend 16) a).toNat = bs.foldl (fun n x => n + x.toNat) n % 65536 from
    h 0 0#16 rfl
  induction bs with
  | nil => exact fun _ _ h => h
  | cons b bs ih =>
    intro n a h
    refine ih (n + b.toNat) (a + b.zeroExtend 16) ?_
    rw [BitVec.toNat_add, BitVec.toNat_setWidth_of_le (by decide), h]
    omega

/-- R177: the same field as a number. -/
theorem half_toNat (h : Half) : (h.extractLsb' 8 8).toNat * 256 + (h.extractLsb' 0 8).toNat = h.toNat := by
  simp only [BitVec.extractLsb'_toNat]
  omega

/-- R162: a frame's check makes the sum from the length on 0 modulo 65,536. -/
theorem checkOf_sum (bs : List Byte) :
    (bs.foldl (fun n x => n + x.toNat) 0 + (checkOf bs).toNat) % 65536 = 0 := by
  have hsum := byteSum_toNat bs
  unfold checkOf
  rw [BitVec.toNat_neg]
  omega

/-- Settles O44: the records by their bytes and their check, and a frame by the bytes its check is taken over. -/
theorem outwardRecordsAreSealed : Obligations.OutwardRecordsAreSealed := by
  unfold Obligations.OutwardRecordsAreSealed
  intro sums first
  refine ⟨⟨Record.sealed_sum _ _ _ _ _ _ _, rfl⟩, fun x => ⟨Record.sealed_sum _ _ _ _ _ _ _, rfl⟩,
    fun x => ⟨Record.sealed_sum _ _ _ _ _ _ _, rfl, rfl, rfl, rfl, rfl, rfl, rfl⟩, fun a => ?_, fun r => ?_⟩
  · obtain ⟨hlane, hresult, hunused⟩ := laneBits_or_code a.lane a.result
    obtain ⟨hrange, hunplanned, hunsettled, hzero⟩ := flags_byte a.range a.unplanned a.unsettled
    refine ⟨Record.sealed_sum _ _ _ _ _ _ _, rfl, hlane, hresult.trans ?_, hunused, half_extractLsb' a.tag,
      fun u hu => congrArg presentByte hu, fun hu => congrArg presentByte hu, fun b hb => congrArg presentByte hb,
      fun hb => congrArg presentByte hb, hrange, hunplanned, hunsettled, hzero⟩
    cases a.result <;> rfl
  · refine ⟨r.body.bytes, (checkOf (lengthAndBody r.frameBody)).extractLsb' 8 8,
      (checkOf (lengthAndBody r.frameBody)).extractLsb' 0 8, ?_, ?_, ?_⟩
    · rfl
    · rw [half_toNat]
      exact checkOf_sum (lengthAndBody r.frameBody)
    · cases r.body <;> rfl

end Sys2Proof.Machine
end

section
/-! SUPPORT. The Event Queue by itself: its alert line and linger timer, the three fates of a record handed to it (R151,
R152), and what keeps it in bound, in order and aimed. -/

namespace Sys2Proof.Machine

/-! ### The alert line and the linger timer (R155, R156) -/

theorem EventRecord.urgent_iff (r : EventRecord) : r.urgent = true ↔ r.event.severity = .urgent := decide_eq_true_iff

theorem EventRecord.routine_iff (r : EventRecord) : r.urgent = false ↔ r.event.severity = .routine := by
  unfold EventRecord.urgent
  cases r.event.severity <;> decide

/-- R155: the three conditions. -/
theorem EventQueue.alertDue_iff (q : EventQueue) : q.alertDue = true ↔ q.trigger ≤ q.records.length
    ∨ (q.linger ≠ 0 ∧ q.records ≠ [] ∧ q.lingerTimer = .expired)
    ∨ (q.urgentImmediate = true ∧ ∃ x ∈ q.records, x.event.severity = .urgent) := by
  unfold EventQueue.alertDue
  simp only [Bool.or_eq_true, Bool.and_eq_true, decide_eq_true_eq, Bool.not_eq_true', List.isEmpty_eq_false_iff,
    List.any_eq_true, EventRecord.urgent_iff, or_assoc, and_assoc]

theorem EventQueue.aimed_empty {q : EventQueue} (now : Nat) (h : q.records = []) : q.aimed now = .stopped := by
  unfold EventQueue.aimed
  rw [h]

/-- R156: the timer aimed at the oldest record. -/
theorem EventQueue.aimed_oldest {q : EventQueue} {r : EventRecord} {rest : List EventRecord} (now : Nat)
    (h : q.records = r :: rest) :
    q.aimed now = if q.linger = 0 then .stopped
      else if r.enqueuedAt + q.linger * 1000 ≤ now then .expired
      else .running (r.enqueuedAt + q.linger * 1000) := by
  unfold EventQueue.aimed
  rw [h]
  rfl

/-- R156: with linger off, or with nothing queued, the timer stops. -/
theorem EventQueue.aimed_stopped {q : EventQueue} (now : Nat) (h : q.records = [] ∨ q.linger = 0) :
    q.aimed now = .stopped := by
  cases hq : q.records with
  | nil => exact EventQueue.aimed_empty now hq
  | cons r rest =>
    rw [EventQueue.aimed_oldest now hq, if_pos (h.resolve_left (by rw [hq]; exact List.cons_ne_nil _ _))]

/-- R156: an aim finds the moment passed exactly when the oldest record has stayed for the linger time. -/
theorem EventQueue.aimed_expired_iff (q : EventQueue) (now : Nat) : q.aimed now = .expired ↔
    ∃ r rest, q.records = r :: rest ∧ q.linger ≠ 0 ∧ r.enqueuedAt + q.linger * 1000 ≤ now := by
  cases hq : q.records with
  | nil =>
    rw [EventQueue.aimed_empty now hq]
    exact iff_of_false nofun nofun
  | cons r rest =>
    have hoff : (∃ x l, r :: rest = x :: l ∧ q.linger ≠ 0 ∧ x.enqueuedAt + q.linger * 1000 ≤ now) ↔
        q.linger ≠ 0 ∧ r.enqueuedAt + q.linger * 1000 ≤ now :=
      ⟨by rintro ⟨_, _, e, h⟩; cases e; exact h, fun h => ⟨r, rest, rfl, h⟩⟩
    rw [hoff, EventQueue.aimed_oldest now hq]
    split
    · rename_i hl
      exact iff_of_false nofun fun h => h.1 hl
    · rename_i hl
      split
      · rename_i hle
        exact iff_of_true rfl ⟨hl, hle⟩
      · rename_i hlt
        exact iff_of_false nofun fun h => hlt h.2

/-- R155, R156: the line of a queue whose timer has just been aimed. -/
theorem EventQueue.alertDue_aimed_iff {q : EventQueue} {now : Nat} (h : q.lingerTimer = q.aimed now) :
    q.alertDue = true ↔ q.trigger ≤ q.records.length
      ∨ (∃ r rest, q.records = r :: rest ∧ q.linger ≠ 0 ∧ r.enqueuedAt + q.linger * 1000 ≤ now)
      ∨ (q.urgentImmediate = true ∧ ∃ x ∈ q.records, x.event.severity = .urgent) := by
  rw [EventQueue.alertDue_iff, h, EventQueue.aimed_expired_iff]
  refine or_congr_right (or_congr_left ⟨fun hd => hd.2.2, fun hd => ?_⟩)
  obtain ⟨r, rest, hq, hl, -⟩ := id hd
  exact ⟨hl, by rw [hq]; exact List.cons_ne_nil _ _, hd⟩

/-- R156: an aimed timer is sound. -/
theorem EventQueue.aim_lingerSound (q : EventQueue) (now : Nat) : (q.aim now).LingerSound now := by
  unfold EventQueue.LingerSound EventQueue.aim
  cases hq : q.records with
  | nil =>
    simp only [EventQueue.aimed_empty now hq]
    exact .inr trivial
  | cons r rest =>
    simp only [EventQueue.aimed_oldest now hq]
    by_cases hl : q.linger = 0
    · simp only [if_pos hl]
      exact .inl hl
    · by_cases hle : r.enqueuedAt + q.linger * 1000 ≤ now
      · simp only [if_neg hl, if_pos hle]
        exact ⟨hl, r, rfl, hle⟩
      · simp only [if_neg hl, if_neg hle]
        exact ⟨hl, rfl⟩

/-- R156: with nothing queued a sound timer is stopped. -/
theorem EventQueue.LingerSound.stopped {q : EventQueue} {now : Nat} (h : q.LingerSound now) (hq : q.records = []) :
    q.lingerTimer = .stopped := by
  unfold EventQueue.LingerSound at h
  cases ht : q.lingerTimer with
  | stopped => rfl
  | running t => simp [ht, hq] at h
  | expired => simp [ht, hq] at h

/-- R156: the timer's soundness is read off the oldest record. -/
theorem EventQueue.LingerSound.of_head {q p : EventQueue} {now : Nat} (h : q.LingerSound now)
    (hl : p.linger = q.linger) (ht : p.lingerTimer = q.lingerTimer) (hr : p.records.head? = q.records.head?) :
    p.LingerSound now := by
  have hnil : p.records = [] ↔ q.records = [] := by rw [← List.head?_eq_none_iff, hr, List.head?_eq_none_iff]
  unfold EventQueue.LingerSound at h ⊢
  rwa [hl, ht, hr, hnil]

/-- Time passing makes no oldest record younger. -/
theorem EventQueue.LingerSound.later {q : EventQueue} {now later : Nat} (h : q.LingerSound now) (hle : now ≤ later) :
    q.LingerSound later := by
  unfold EventQueue.LingerSound at h ⊢
  split
  · rename_i ht
    rwa [ht] at h
  · rename_i ht
    rwa [ht] at h
  · rename_i ht
    rw [ht] at h
    obtain ⟨hl, r, hr, hdue⟩ := h
    exact ⟨hl, r, hr, hdue.trans hle⟩

/-! ### The three fates of a record (R151, R152) -/

/-- The newest record that satisfies `p` is the one that goes. -/
theorem removeNewest_eq {p : EventRecord → Bool} {before later : List EventRecord} {x : EventRecord}
    (hx : p x = true) (hlater : ∀ y ∈ later, p y = false) :
    removeNewest p (before ++ x :: later) = some (before ++ later) := by
  induction before with
  | nil =>
    have hnone := removeNewest_none.2 hlater
    simp only [List.nil_append, removeNewest, hnone, hx, if_true]
  | cons y before ih => simp only [List.cons_append, removeNewest, ih]

section Enqueue
variable {q : EventQueue} {r : EventRecord}

/-- R151, R156: in room a record joins the tail; one that finds the queue empty has the timer aimed at it. -/
theorem EventQueue.enqueue_appends (now : Nat) (h : q.records.length < 64) :
    q.enqueue r now = (if q.records = [] then ({ q with records := q.records ++ [r] } : EventQueue).aim now
      else { q with records := q.records ++ [r] }).evaluate := by
  unfold EventQueue.enqueue
  exact if_pos h

/-- R152: at a full queue a ROUTINE record, and an URGENT one among URGENT ones, is discarded. -/
theorem EventQueue.enqueue_discards (now : Nat) (hfull : 64 ≤ q.records.length)
    (h : r.event.severity = .routine ∨ ∀ x ∈ q.records, x.event.severity = .urgent) :
    q.enqueue r now = ({ q with lost := true } : EventQueue).evaluate := by
  unfold EventQueue.enqueue
  rw [if_neg (show ¬ q.records.length < eventCapacity from Nat.not_lt.2 hfull)]
  rcases h with hr | hq
  · rw [if_neg (by rw [(EventRecord.routine_iff r).2 hr]; exact Bool.false_ne_true)]
  · have hnone : removeNewest (fun x => !x.urgent) q.records = none :=
      removeNewest_none.2 fun x hx => by rw [(EventRecord.urgent_iff x).2 (hq x hx)]; rfl
    rw [hnone]
    exact ite_self _

/-- R152, R156: at a full queue an URGENT record takes the place of the newest ROUTINE one, standing at the tail; the
timer is aimed anew if that was the oldest record. -/
theorem EventQueue.enqueue_displaces {before later : List EventRecord} {x : EventRecord} (now : Nat)
    (hfull : 64 ≤ q.records.length) (hr : r.event.severity = .urgent) (hq : q.records = before ++ x :: later)
    (hx : x.event.severity = .routine) (hlater : ∀ y ∈ later, y.event.severity = .urgent) :
    q.enqueue r now =
      (if before = [] then ({ q with records := before ++ later ++ [r], lost := true } : EventQueue).aim now
        else { q with records := before ++ later ++ [r], lost := true }).evaluate := by
  have hgoes : (!x.urgent) = true := by rw [(EventRecord.routine_iff x).2 hx]; rfl
  have hstay : ∀ y ∈ later, (!y.urgent) = false := fun y hy => by
    rw [(EventRecord.urgent_iff y).2 (hlater y hy)]
    rfl
  have hkept : removeNewest (fun x => !x.urgent) q.records = some (before ++ later) := by
    rw [hq]
    exact removeNewest_eq hgoes hstay
  have holdest : (removeNewest (fun x => !x.urgent) q.records.tail).isNone = true ↔ before = [] := by
    rw [hq]
    cases before with
    | nil => exact iff_of_true (Option.isNone_iff_eq_none.2 (removeNewest_none.2 hstay)) rfl
    | cons y before =>
      rw [List.cons_append, List.tail_cons, removeNewest_eq hgoes hstay]
      exact iff_of_false Bool.false_ne_true (List.cons_ne_nil _ _)
  unfold EventQueue.enqueue
  rw [if_neg (show ¬ q.records.length < eventCapacity from Nat.not_lt.2 hfull),
    if_pos ((EventRecord.urgent_iff r).2 hr), hkept]
  simp only [holdest]

/-- A queue that is not all URGENT has a newest ROUTINE record. -/
theorem exists_newest_routine {l : List EventRecord} (h : ¬ ∀ x ∈ l, x.event.severity = .urgent) :
    ∃ before x later, l = before ++ x :: later ∧ x.event.severity = .routine
      ∧ ∀ y ∈ later, y.event.severity = .urgent := by
  cases hl : removeNewest (fun x => !x.urgent) l with
  | none =>
    refine absurd (fun x hx => ?_) h
    have := removeNewest_none.1 hl x hx
    simpa [EventRecord.urgent_iff] using this
  | some kept =>
    obtain ⟨before, x, later, e, -, hx, hlater⟩ := removeNewest_spec hl
    refine ⟨before, x, later, e, ?_, fun y hy => ?_⟩
    · simpa [EventRecord.routine_iff] using hx
    · simpa [EventRecord.urgent_iff] using hlater y hy

/-- R152: what a full queue does with a record. -/
theorem EventQueue.enqueue_full (r : EventRecord) (now : Nat) (hfull : 64 ≤ q.records.length) :
    q.enqueue r now = ({ q with lost := true } : EventQueue).evaluate
    ∨ ∃ before x later, q.records = before ++ x :: later ∧ q.enqueue r now =
      (if before = [] then ({ q with records := before ++ later ++ [r], lost := true } : EventQueue).aim now
        else { q with records := before ++ later ++ [r], lost := true }).evaluate := by
  by_cases hall : ∀ x ∈ q.records, x.event.severity = .urgent
  · exact .inl (EventQueue.enqueue_discards now hfull (.inr hall))
  · obtain ⟨before, x, later, hq, hx, hlater⟩ := exists_newest_routine hall
    cases hr : r.event.severity with
    | routine => exact .inl (EventQueue.enqueue_discards now hfull (.inl hr))
    | urgent => exact .inr ⟨before, x, later, hq, EventQueue.enqueue_displaces now hfull hr hq hx hlater⟩

/-- R152: the lost flag is set by a record that finds the queue full. -/
theorem EventQueue.enqueue_full_lost (r : EventRecord) (now : Nat) (hfull : 64 ≤ q.records.length) :
    (q.enqueue r now).lost = true := by
  obtain e | ⟨before, _, _, -, e⟩ := EventQueue.enqueue_full r now hfull
  · rw [e]
    rfl
  · rw [e]
    split <;> rfl

end Enqueue

/-! ### What keeps the queue sound -/

/-- R151: at most 64 records, in the order of their enqueue moments, stamped with moments that have passed. -/
def RecordsSound (now : Nat) (l : List EventRecord) : Prop :=
  l.length ≤ 64 ∧ (∀ r ∈ l, r.micros < 1000000 ∧ r.enqueuedAt ≤ now)
    ∧ l.Pairwise (fun x y => x.enqueuedAt ≤ y.enqueuedAt)

/-- `EventsSound` of the queue alone, at a moment. -/
structure EventQueue.Sound (q : EventQueue) (now : Nat) : Prop where
  records : RecordsSound now q.records
  trigger : 1 ≤ q.trigger ∧ q.trigger ≤ 64
  linger : q.linger ≤ 1000
  alert : q.alert = q.alertDue
  timer : q.LingerSound now

theorem eventsSound_iff {s : State} : EventsSound s ↔ s.events.Sound s.clock.now ∧ s.clock.micros < 1000000 := by
  unfold EventsSound
  rw [← EventQueue.alertDue_iff, ← Bool.eq_iff_iff]
  constructor
  · rintro ⟨hlength, hlow, hhigh, hlinger, hmicros, hstamps, horder, halert, htimer⟩
    exact ⟨⟨⟨hlength, hstamps, horder⟩, ⟨hlow, hhigh⟩, hlinger, halert, htimer⟩, hmicros⟩
  · rintro ⟨⟨⟨hlength, hstamps, horder⟩, ⟨hlow, hhigh⟩, hlinger, halert, htimer⟩, hmicros⟩
    exact ⟨hlength, hlow, hhigh, hlinger, hmicros, hstamps, horder, halert, htimer⟩

/-- Records that leave let the others stand. -/
theorem RecordsSound.sublist {now : Nat} {l kept : List EventRecord} (h : RecordsSound now l) (hk : kept.Sublist l) :
    RecordsSound now kept := by
  obtain ⟨hlength, hstamps, horder⟩ := h
  exact ⟨hk.length_le.trans hlength, fun r hr => hstamps r (hk.subset hr), horder.sublist hk⟩

/-- A record stamped with the present moment stands at the tail. -/
theorem RecordsSound.append {now : Nat} {l : List EventRecord} {r : EventRecord} (h : RecordsSound now l)
    (hroom : l.length < 64) (hm : r.micros < 1000000) (hr : r.enqueuedAt = now) : RecordsSound now (l ++ [r]) := by
  obtain ⟨-, hstamps, horder⟩ := h
  refine ⟨by simpa using hroom, fun x hx => ?_, List.pairwise_append.2 ⟨horder, List.pairwise_singleton _ _, ?_⟩⟩
  · rcases List.mem_append.1 hx with hx | hx
    · exact hstamps x hx
    · rw [List.mem_singleton.1 hx]
      exact ⟨hm, hr.le⟩
  · intro x hx y hy
    rw [List.mem_singleton.1 hy, hr]
    exact (hstamps x hx).2

theorem RecordsSound.later {now later : Nat} {l : List EventRecord} (h : RecordsSound now l) (hle : now ≤ later) :
    RecordsSound later l := by
  obtain ⟨hlength, hstamps, horder⟩ := h
  exact ⟨hlength, fun r hr => ⟨(hstamps r hr).1, (hstamps r hr).2.trans hle⟩, horder⟩

section Sound
variable {q : EventQueue} {now : Nat}

/-- R148: time passing changes no condition. -/
theorem EventQueue.Sound.later {later : Nat} (h : q.Sound now) (hle : now ≤ later) : q.Sound later :=
  { h with records := h.records.later hle, timer := h.timer.later hle }

/-- R155, R156: records in order, the timer aimed and the line evaluated. -/
theorem EventQueue.Sound.aimed {l : List EventRecord} (h : q.Sound now) (hl : RecordsSound now l) (lost : Bool) :
    (({ q with records := l, lost } : EventQueue).aim now).evaluate.Sound now :=
  { records := hl, trigger := h.trigger, linger := h.linger, alert := rfl, timer := EventQueue.aim_lingerSound _ _ }

/-- R155, R156: records in order under the same oldest one, and the line evaluated. -/
theorem EventQueue.Sound.sameOldest {l : List EventRecord} (h : q.Sound now) (hl : RecordsSound now l) (lost : Bool)
    (hhead : l.head? = q.records.head?) : ({ q with records := l, lost } : EventQueue).evaluate.Sound now :=
  { records := hl, trigger := h.trigger, linger := h.linger, alert := rfl, timer := h.timer.of_head rfl rfl hhead }

/-- R151, R152: a record handed to a sound queue leaves it sound, whichever its fate. -/
theorem EventQueue.Sound.enqueue {r : EventRecord} (h : q.Sound now) (hm : r.micros < 1000000)
    (hr : r.enqueuedAt = now) : (q.enqueue r now).Sound now := by
  by_cases hroom : q.records.length < 64
  · have hl := h.records.append hroom hm hr
    rw [EventQueue.enqueue_appends now hroom]
    split
    · exact h.aimed hl q.lost
    · rename_i hne
      exact h.sameOldest hl q.lost (List.head?_append_of_ne_nil _ hne)
  · obtain e | ⟨before, x, later, hq, e⟩ := EventQueue.enqueue_full r now (Nat.not_lt.1 hroom)
    · rw [e]
      exact h.sameOldest h.records true rfl
    · rw [e]
      have hsub : (before ++ later).Sublist q.records := by
        rw [hq]
        exact (List.sublist_cons_self x later).append_left before
      have hlt : (before ++ later).length < 64 := by
        have hlength := h.records.1
        rw [hq] at hlength
        simp only [List.length_append, List.length_cons] at hlength ⊢
        omega
      have hl := (h.records.sublist hsub).append hlt hm hr
      split
      · exact h.aimed hl true
      · rename_i hne
        refine h.sameOldest hl true ?_
        rw [hq, List.append_assoc, List.head?_append_of_ne_nil _ hne, List.head?_append_of_ne_nil _ hne]

/-- R154: records fetched. -/
theorem EventQueue.Sound.fetch (h : q.Sound now) (n : Nat) : (q.fetch n now).Sound now := by
  have hl := h.records.sublist (List.drop_sublist n q.records)
  unfold EventQueue.fetch
  simp only
  split
  · rename_i hq
    exact h.sameOldest hl false (by rw [hq, List.drop_nil])
  · exact h.aimed hl false

/-- R157: settings in range written. -/
theorem EventQueue.Sound.setAlert {trigger linger : Nat} (h : q.Sound now) (ht : 1 ≤ trigger ∧ trigger ≤ 64)
    (hl : linger ≤ 1000) (urgentImmediate : Bool) : (q.setAlert trigger linger urgentImmediate now).Sound now :=
  { records := h.records, trigger := ht, linger := hl, alert := rfl, timer := EventQueue.aim_lingerSound _ _ }

/-- R156: a running timer expires at its moment or later. -/
theorem EventQueue.Sound.expire {t : Nat} (h : q.Sound now) (ht : q.lingerTimer = .running t) (hle : t ≤ now) :
    ({ q with lingerTimer := .expired } : EventQueue).evaluate.Sound now := by
  have htimer := h.timer
  unfold EventQueue.LingerSound at htimer
  rw [ht] at htimer
  obtain ⟨hl, hdue⟩ := htimer
  obtain ⟨r, hr, rfl⟩ := Option.map_eq_some_iff.1 hdue
  exact { records := h.records, trigger := h.trigger, linger := h.linger, alert := rfl, timer := ⟨hl, r, hr, hle⟩ }

end Sound

end Sys2Proof.Machine
end

section
/-! Records handed to the queue (O45), FETCH-EVENTS and the bytes of a record (O46), SET-ALERT and the linger expiry
(O48), the idle step (O2), SET-TIME and SET-FWDLINK (O47). -/

namespace Sys2Proof.Machine

/-! ### A record handed to the queue (R151, R152) -/

/-- Settles O45: the settings and the line whatever the record's fate, and then the three fates. -/
theorem fullQueueKeepsUrgentRecords : Obligations.FullQueueKeepsUrgentRecords := by
  intro q r now after
  obtain ⟨htrigger, hlinger, hurgent, halert⟩ := EventQueue.enqueue_settings q r now
  have hdue := EventQueue.alertDue_iff after
  rw [← halert, htrigger, hlinger, hurgent] at hdue
  have discarded : 64 ≤ q.records.length →
      (r.event.severity = .routine ∨ ∀ x ∈ q.records, x.event.severity = .urgent) →
      after.records = q.records ∧ after.lingerTimer = q.lingerTimer := fun hfull h => by
    unfold after
    rw [EventQueue.enqueue_discards now hfull h]
    exact ⟨rfl, rfl⟩
  refine ⟨htrigger, hlinger, hurgent, hdue, fun hroom => ?_, EventQueue.enqueue_full_lost r now,
    fun hfull hr => discarded hfull (.inl hr),
    fun hfull hr => ⟨fun hall => discarded hfull (.inr hall), fun before x later hq hx hlater => ?_⟩⟩
  · obtain ⟨hrecords, hlost⟩ := EventQueue.enqueue_room r now hroom
    have hafter : after = _ := EventQueue.enqueue_appends now hroom
    refine ⟨hrecords, hlost, fun hne => by rw [hafter, if_neg hne]; rfl, fun hempty => ?_⟩
    rw [hafter, if_pos hempty]
    exact EventQueue.aimed_oldest (rest := []) now (by rw [hempty]; rfl)
  · have hafter : after = _ := EventQueue.enqueue_displaces now hfull hr hq hx hlater
    refine ⟨by rw [hafter]; split <;> rfl, fun hne => by rw [hafter, if_neg hne]; rfl, fun hoff hl => ?_,
      fun oldest rest hoff hl hnew => ?_⟩
    all_goals
      subst hoff
      rw [hafter, if_pos rfl]
    · exact EventQueue.aimed_stopped now (.inr hl)
    · exact (EventQueue.aimed_oldest now hnew).trans (if_neg hl)

/-! ### FETCH-EVENTS (R154) -/

theorem exec_fetchEvents {s : State} (hs : s.PortFree) (tag n : Byte) :
    exec (.fetchEvents tag n) s = .next (finish 0x33#8 tag (doFetchEvents n s)) := exec_rowOf hs tag (.fetchEvents n)

/-- R154, R156: what a fetch makes of a queue whose timer is sound: the timer is aimed at the new oldest record, and
with nothing queued it was stopped and is. -/
theorem EventQueue.fetch_eq {q : EventQueue} {now : Nat} (h : q.LingerSound now) (n : Nat) :
    q.fetch n now = (({ q with records := q.records.drop n, lost := false } : EventQueue).aim now).evaluate := by
  unfold EventQueue.fetch
  simp only
  split
  · rename_i hq
    unfold EventQueue.aim
    rw [EventQueue.aimed_empty now (by rw [hq]; exact List.drop_nil), ← h.stopped hq]
  · rfl

/-- R154, R172: the fetch and its reply. -/
theorem doFetchEvents_eq (count : Byte) {s : State} (h : s.events.LingerSound s.clock.now) :
    let n := max 1 (min 16 count.toNat)
    let kept := s.events.records.drop n
    doFetchEvents count s =
      ({ s with
          events := (({ s.events with records := kept, lost := false } : EventQueue).aim s.clock.now).evaluate },
        .ok (decide (n ≠ count.toNat))
          ([byte (min n s.events.records.length), byte kept.length, flagByte s.events.lost]
            ++ (s.events.records.take n).flatMap EventRecord.bytes)) := by
  intro n kept
  have hn : clampTo 1 16 count.toNat = n := clampTo_eq (by decide) _
  unfold doFetchEvents
  simp only [hn, EventQueue.fetch_eq h, List.length_take, kept]

/-- R179: a set of uplinks is the sum of its members' bits. -/
theorem setBytes_eq (v : UplinkSet) :
    setBytes v = be16 ((List.finRange 16).foldl (fun n u => n + if v.get u then 2 ^ u.val else 0) 0) := by
  unfold setBytes
  congr 2
  funext n u
  split <;> rfl

/-- Section 11.4: the details of every kind fit their eight bytes. -/
theorem Event.detail_length (e : Event) : e.detail.length ≤ 8 := by
  cases e <;> exact Nat.le_of_ble_eq_true rfl

/-- R150, R177: a record laid out from its kind, severity, subject and detail. -/
theorem EventRecord.bytes_eq {r : EventRecord} {kind severity subject : Byte} {number : Nat} {detail : List Byte}
    (hkind : r.event.kindCode = kind) (hseverity : r.event.severity.code = severity)
    (hsubject : r.event.subject = (subject, number)) (hdetail : r.event.detail = detail) :
    detail.length ≤ 8 ∧ r.bytes = [kind, severity] ++ Word.bytes r.seconds ++ be32 r.micros
      ++ [subject] ++ be16 number ++ [byte detail.length] ++ detail ++ List.replicate (8 - detail.length) 0#8 := by
  refine ⟨hdetail ▸ r.event.detail_length, ?_⟩
  unfold EventRecord.bytes
  rw [hkind, hseverity, hsubject, hdetail]

/-- Settles O46: the fetch, and then the bytes kind by kind. -/
theorem fetchEventsTakesTheOldest : Obligations.FetchEventsTakesTheOldest := by
  refine ⟨?_, fun r => ?_⟩
  · intro tag count s hs hsound n kept due
    obtain ⟨hqueue, -⟩ := eventsSound_iff.1 hsound
    rw [exec_fetchEvents hs, doFetchEvents_eq count hqueue.timer]
    exact ⟨_, rfl, rfl, fun h => EventQueue.aimed_stopped s.clock.now h,
      fun r rest hkept hl => (EventQueue.aimed_oldest s.clock.now hkept).trans (if_neg hl),
      EventQueue.alertDue_aimed_iff (now := s.clock.now) rfl, State.answers_finish _ _ _ rfl⟩
  · obtain ⟨event, seconds, micros, moment⟩ := r
    cases event with
    | uplinkHoldoff u d => exact EventRecord.bytes_eq rfl rfl rfl rfl
    | uplinkDown u d => exact EventRecord.bytes_eq rfl rfl rfl rfl
    | uplinkRestoring u c => exact EventRecord.bytes_eq rfl rfl rfl (by cases c <;> rfl)
    | uplinkUp u c => exact EventRecord.bytes_eq rfl rfl rfl (by cases c <;> rfl)
    | degradeSet u p n len => exact EventRecord.bytes_eq rfl (by cases p <;> rfl) rfl rfl
    | degradeClear u n len => exact EventRecord.bytes_eq rfl rfl rfl rfl
    | conduitTrip c trip down v =>
      exact EventRecord.bytes_eq rfl rfl rfl (congrArg ([byte trip, byte down] ++ ·) (setBytes_eq v))
    | conduitRelease c trip down v =>
      exact EventRecord.bytes_eq rfl rfl rfl (congrArg ([byte trip, byte down] ++ ·) (setBytes_eq v))
    | groupEvacuated g replan b => exact EventRecord.bytes_eq rfl rfl rfl (by cases b <;> rfl)
    | groupRecovered g replan b n => exact EventRecord.bytes_eq rfl rfl rfl (by cases b <;> rfl)
    | swapDone b => exact EventRecord.bytes_eq rfl rfl rfl (by cases b <;> rfl)
    | settled seconds micros passes => exact EventRecord.bytes_eq rfl rfl rfl rfl
    | laneOverrun l tag => exact EventRecord.bytes_eq rfl rfl rfl rfl
    | unplannedHit g l b => exact EventRecord.bytes_eq rfl rfl rfl (by cases b <;> rfl)
    | fwdLinkUp kind => exact EventRecord.bytes_eq rfl rfl rfl (by cases kind <;> rfl)
    | fwdLinkDown silence errors => exact EventRecord.bytes_eq rfl rfl rfl rfl

/-! ### SET-ALERT and the linger expiry (R155 to R157) -/

theorem exec_setAlert {s : State} (hs : s.PortFree) (tag trigger urgent : Byte) (linger : Half) :
    exec (.setAlert tag trigger linger urgent) s = .next (finish 0x32#8 tag (doSetAlert trigger linger urgent s)) :=
  exec_rowOf hs tag (.setAlert trigger linger urgent)

theorem exec_lingerExpiry {s : State} (hr : s.resetHeld = false) :
    exec .lingerExpiry s = .next (lingerExpiry s) := whenRunning_of_released hr lingerExpiry

/-- Section 11.5: a code of two values is read and reported alike. -/
theorem flagByte_decide {b : Byte} (h : b.toNat ≤ 1) : flagByte (decide (b = 1#8)) = b := by
  obtain rfl | rfl : b = 0#8 ∨ b = 1#8 := by bv_omega
  · rfl
  · rfl

/-- R157, R158: a SET-ALERT whose urgent code is 0 or 1. -/
theorem doSetAlert_good {urgent : Byte} (trigger : Byte) (linger : Half) (s : State) (h : urgent.toNat ≤ 1) :
    doSetAlert trigger linger urgent s =
      ({ s with
          events := s.events.setAlert (max 1 (min 64 trigger.toNat)) (min 1000 linger.toNat) (decide (urgent = 1#8))
            s.clock.now },
       .ok (decide (max 1 (min 64 trigger.toNat) ≠ trigger.toNat ∨ min 1000 linger.toNat ≠ linger.toNat))
        (s.events.setAlert (max 1 (min 64 trigger.toNat)) (min 1000 linger.toNat) (decide (urgent = 1#8))
          s.clock.now).alertItems) := by
  unfold doSetAlert
  simp only [judgeFlag_of_le h, clampTo_eq (show 1 ≤ 64 by decide), clampTo_zero_eq, Bool.decide_or]

/-- R155, R156: a sound timer that runs finds, at its expiry, the linger condition. -/
theorem EventQueue.LingerSound.alertDue_expired {q : EventQueue} {now e : Nat} (h : q.LingerSound now)
    (ht : q.lingerTimer = .running e) : ({ q with lingerTimer := .expired } : EventQueue).alertDue = true := by
  unfold EventQueue.LingerSound at h
  rw [ht] at h
  obtain ⟨hl, hdue⟩ := h
  refine (EventQueue.alertDue_iff _).2 (.inr (.inl ⟨hl, fun hq => ?_, rfl⟩))
  simp only [show q.records = [] from hq, List.head?_nil, Option.map_none] at hdue
  cases hdue

/-- Settles O48: the refusal, the settings written with timer and line, and the expiry. -/
theorem alertSettingsAndLingerDriveTheLine : Obligations.AlertSettingsAndLingerDriveTheLine := by
  refine ⟨fun tag trigger urgent linger s hs => ⟨fun hcode => ?_, fun hcode => ?_⟩,
    fun s hr => ⟨fun e ht hsound => ?_, fun hstill => ?_⟩⟩
  · refine replies_only ?_
    rw [exec_setAlert hs]
    simp only [doSetAlert, judgeFlag_of_gt hcode, refuse]
  · intro level wait old urgents
    obtain ⟨q, hq⟩ : ∃ q, q = s.events.setAlert level wait (decide (urgent = 1#8)) s.clock.now := ⟨_, rfl⟩
    have hurgents : urgents ≠ [] ↔ ∃ x ∈ s.events.records, x.event.severity = .urgent := by
      simp only [urgents, Ne, List.filter_eq_nil_iff, decide_eq_true_eq, not_forall, not_not, exists_prop]
    have hexpired : q.lingerTimer = .expired ↔ ∃ r rest, s.events.records = r :: rest ∧ old r := by
      rw [hq]
      exact EventQueue.aimed_expired_iff _ s.clock.now
    have halert : q.alert = true ↔ level ≤ s.events.records.length
        ∨ (∃ r rest, s.events.records = r :: rest ∧ old r) ∨ (urgent = 1#8 ∧ urgents ≠ []) := by
      rw [hurgents, ← decide_eq_true_eq (p := urgent = 1#8), hq]
      exact EventQueue.alertDue_aimed_iff (now := s.clock.now) rfl
    have hitems : q.alertItems = [byte level] ++ be16 wait ++ [urgent, byte s.events.records.length,
        byte urgents.length, if q.alert then 1#8 else 0#8] := by
      have hcount : q.urgentCount = urgents.length := by
        rw [hq]
        exact List.countP_eq_length_filter
      unfold EventQueue.alertItems
      rw [hcount, hq]
      show _ ++ [flagByte (decide (urgent = 1#8)), _, _, _] = _
      rw [flagByte_decide hcode]
      rfl
    rw [exec_setAlert hs, doSetAlert_good trigger linger s hcode, ← hq, hitems]
    refine ⟨_, rfl, ?_, ?_, hexpired, halert, State.answers_finish _ _ _ rfl⟩ <;> rw [hq]
    · rfl
    · exact EventQueue.aim_lingerSound _ s.clock.now
  · obtain ⟨hqueue, -⟩ := eventsSound_iff.1 hsound
    rw [exec_lingerExpiry hr]
    simp only [lingerExpiry, ht]
    refine ⟨_, rfl, State.timeReaches_of_advanceTo rfl, ?_⟩
    simp only [EventQueue.evaluate, State.advanceTo_events, hqueue.timer.alertDue_expired ht]
    rfl
  · rw [exec_lingerExpiry hr]
    unfold lingerExpiry
    split
    · rename_i e ht
      exact absurd ht (hstill e)
    · rfl
    · rfl

/-! ### The time base (R148, R149) and the silence time (R142) -/

/-- R148: one microsecond, with the wrap of the microseconds. -/
theorem Clock.advance_one {c : Clock} (h : c.micros < 1000000) : c.advance 1 =
    { seconds := if c.micros = 999999 then c.seconds + 1#32 else c.seconds,
      micros := if c.micros = 999999 then 0 else c.micros + 1,
      now := c.now + 1 } := by
  unfold Clock.advance
  split
  · rename_i hwrap
    rw [hwrap]
  · rename_i hin
    rw [Nat.div_eq_of_lt (by omega), Nat.mod_eq_of_lt (by omega)]
    simp

/-- Settles O2. -/
theorem emptyQueueTicks : Obligations.EmptyQueueTicks := by
  intro s hs
  have hstep : step s = .next s.tick := by
    unfold step
    rw [hs]
  refine ⟨fun hheld => ?_, fun hr hmicros => ?_⟩
  · rw [hstep, State.tick, if_pos hheld]
  · rw [hstep, State.tick, if_neg (by rw [hr]; exact Bool.false_ne_true), Clock.advance_one hmicros]

theorem exec_setTime {s : State} (hs : s.PortFree) (tag : Byte) (seconds : Word) :
    exec (.setTime tag seconds) s = .next (finish 0x03#8 tag (doSetTime seconds s)) :=
  exec_rowOf hs tag (.setTime seconds)

theorem exec_setFwdlink {s : State} (hs : s.PortFree) (tag silence : Byte) :
    exec (.setFwdlink tag silence) s = .next (finish 0x31#8 tag (doSetFwdlink silence s)) :=
  exec_rowOf hs tag (.setFwdlink silence)

/-- Settles O47. -/
theorem setTimeAndSetFwdlinkMoveNoTimer : Obligations.SetTimeAndSetFwdlinkMoveNoTimer := by
  intro tag s hs
  refine ⟨fun seconds => ⟨_, exec_setTime hs tag seconds, rfl, State.answers_finish _ _ _ rfl⟩, fun silence => ?_⟩
  intro n
  have hn : clampTo 1 100 silence.toNat = n := clampTo_eq (by decide) _
  have hdo : doSetFwdlink silence s = ({ s with fwd := { s.fwd with silence := n } },
      .ok (decide (n ≠ silence.toNat)) [byte n, flagByte s.fwd.linkUp, byte s.fwd.headerErrors]) := by
    simp only [doSetFwdlink, hn]
  exact ⟨_, exec_setFwdlink hs tag silence, by rw [hdo]; rfl, by rw [hdo]; exact State.answers_finish _ _ _ rfl⟩

end Sys2Proof.Machine
end

section
/-! The event queue is sound after every step (O56): a step lets time pass, hands records to the queue, and by a row of
the queue's own fetches, sets or expires. -/

namespace Sys2Proof.Machine

/-! ### Records handed at one moment -/

/-- From `s` to `t` no time passes, and of the Event Queue nothing changes but for records handed to it. -/
def State.OnlyHands (s t : State) : Prop := t.clock = s.clock ∧ ∃ es, s.Hands t es

theorem State.OnlyHands.of_same {s t : State} (he : t.events = s.events) (hc : t.clock = s.clock) : s.OnlyHands t :=
  ⟨hc, [], he, fun _ => by rw [he, List.map_nil, List.append_nil]⟩

theorem State.OnlyHands.refl (s : State) : s.OnlyHands s := .of_same rfl rfl

theorem State.OnlyHands.trans {s t r : State} (h1 : s.OnlyHands t) (h2 : t.OnlyHands r) : s.OnlyHands r := by
  obtain ⟨hc1, es, hes⟩ := h1
  obtain ⟨hc2, fs, hfs⟩ := h2
  exact ⟨hc2.trans hc1, es ++ fs, hes.append hfs hc2.symm⟩

theorem State.raise_onlyHands (e : Event) (s : State) : s.OnlyHands (s.raise e) :=
  ⟨rfl, [e], State.raiseAll_hands (m := s) [e] rfl rfl rfl⟩

/-- R150, R151: events stamped with the present time and handed in turn. -/
theorem EventQueue.Sound.handed {q : EventQueue} {c : Clock} (h : q.Sound c.now) (hm : c.micros < 1000000)
    (es : List Event) : (es.foldl (fun q e => q.enqueue (e.stamped c) c.now) q).Sound c.now := by
  induction es generalizing q with
  | nil => exact h
  | cons e es ih => exact ih (h.enqueue hm rfl)

/-- Records handed at one moment keep the queue sound. -/
theorem EventsSound.onlyHands {s t : State} (h : EventsSound s) (hr : s.OnlyHands t) : EventsSound t := by
  obtain ⟨hc, es, he, -⟩ := hr
  rw [eventsSound_iff] at h ⊢
  rw [← hc] at h
  rw [he]
  exact ⟨h.1.handed h.2 es, h.2⟩

/-- R148: so does time passing. -/
theorem EventsSound.advance {s : State} (h : EventsSound s) (k : Nat) :
    EventsSound { s with clock := s.clock.advance k } := by
  rw [eventsSound_iff] at h ⊢
  exact ⟨h.1.later (Nat.le_add_right _ k), Clock.advance_micros k s.clock⟩

theorem EventsSound.advanceTo {s : State} (h : EventsSound s) (e : Nat) : EventsSound (s.advanceTo e) := h.advance _

/-! ### The operations of the other blocks -/

/-- R53, step 5. -/
theorem State.evaluateUsability_onlyHands (touched : List Conduit) (events : List Event) (m before : State) :
    m.OnlyHands (m.evaluateUsability touched events before) :=
  ⟨State.evaluateUsability_clock _ _ _ _, _, State.evaluateUsability_hands _ _ _ _⟩

theorem State.settleHealth_onlyHands (u : Uplink) (y : UplinkState × List Event) (s before : State) :
    s.OnlyHands (s.settleHealth u y before) := State.evaluateUsability_onlyHands _ _ (s.setUplink u y.1) _

theorem State.handOver_onlyHands (u : Uplink) (x : UplinkState) (s : State) : s.OnlyHands (s.handOver u x) := by
  obtain ⟨_, _, _, -, -, -, hclock, -⟩ := State.handOver_spec u x s
  exact ⟨hclock, _, State.handOver_queues u x s⟩

theorem State.emit_onlyHands (u : Uplink) (s : State) : s.OnlyHands (s.emit u) := by
  cases hc : (s.uplink u).clock with
  | stopped => rw [State.emit_stopped hc]; exact .refl s
  | running start n =>
    rw [State.emit_running hc]
    exact .of_same (State.handProbe_events _ _) (State.handProbe_clock _ _)

theorem State.emitAtStart_onlyHands (u : Uplink) (s : State) : s.OnlyHands (s.emitAtStart u) := by
  unfold State.emitAtStart
  split
  · exact State.emit_onlyHands u s
  · exact .refl s

theorem State.handRefusal_onlyHands (a : Answer) (s : State) : s.OnlyHands (s.handRefusal a) :=
  .of_same (State.handRefusal_events a s) (State.handRefusal_clock a s)

theorem State.deliver_onlyHands (marked : Group → Bool) (f : DirtyFlags) (s : State) :
    s.OnlyHands (s.deliver marked f) :=
  .of_same (State.deliver_events _ _ _) (State.deliver_clock _ _ _)

/-- R118, R121, R122: an arrival at a lane reports an overrun at most. -/
theorem State.laneArrival_onlyHands (q : Request) (s : State) : s.OnlyHands (s.laneArrival q) := by
  cases he : (s.lane q.lane).enabled with
  | false => rw [State.laneArrival_disabled he]; exact State.handRefusal_onlyHands _ s
  | true =>
    by_cases hroom : (s.lane q.lane).queue.length < 16
    · rw [State.laneArrival_queued he hroom]
      exact .of_same rfl rfl
    · rw [State.laneArrival_full he (Nat.not_lt.1 hroom)]
      split
      · exact State.handRefusal_onlyHands _ s
      · have hrefused := State.handRefusal_onlyHands (refusalAnswer q.lane q.tag .overrun) s
        have hmarked : s.OnlyHands ((s.handRefusal (refusalAnswer q.lane q.tag .overrun)).setLane q.lane
            { s.lane q.lane with overrun := true }) := hrefused.trans (.of_same rfl rfl)
        exact hmarked.trans (State.raise_onlyHands _ _)

/-- R129: a lookup reports an unplanned hit at most. -/
theorem State.noteUnplanned_onlyHands (q : Request) (s : State) : s.OnlyHands (s.noteUnplanned q) := by
  unfold State.noteUnplanned
  repeat' split
  · exact .refl s
  · exact .refl s
  · refine State.OnlyHands.trans ?_ (State.raise_onlyHands _ _)
    exact .of_same rfl rfl

/-- R139, R140: a valid record accepted reports the link's coming up at most. -/
theorem State.acceptRecord_onlyHands (k : InKind) (s : State) : s.OnlyHands (s.acceptRecord k) := by
  unfold State.acceptRecord
  split
  · exact .refl s
  · obtain ⟨-, -, hhands⟩ := s.linkComesUp_spec k
    exact ⟨rfl, _, hhands⟩

/-! ### The rows -/

theorem losEdge_onlyHands (u : Uplink) (level : Bool) (s : State) : s.OnlyHands (losEdge u level s) := by
  by_cases hpin : s.resetHeld = true ∨ (s.uplink u).rawLos = level
  · rw [losEdge_pin hpin]
    exact .of_same rfl rfl
  · rw [not_or, Bool.not_eq_true] at hpin
    obtain ⟨hr, hl⟩ := hpin
    cases hm : (s.uplink u).monitored with
    | false => rw [losEdge_disabled hr hl hm]; exact .of_same rfl rfl
    | true => rw [losEdge_monitored hr hl hm]; exact State.handOver_onlyHands _ _ s

theorem recordArrival_onlyHands (r : Record) (s : State) : s.OnlyHands (recordArrival r s) := by
  unfold recordArrival
  split
  · rename_i k _
    refine (State.acceptRecord_onlyHands k s).trans ?_
    cases k with
    | sync => exact .refl _
    | lookupReq => exact State.laneArrival_onlyHands _ _
    | probeIn => exact State.handOver_onlyHands _ _ _
  · exact .of_same rfl rfl

theorem serviceBegin_onlyHands (s : State) : s.OnlyHands (serviceBegin s) := by
  unfold serviceBegin
  repeat' split
  · exact .refl s
  · exact .refl s
  · exact .refl s
  · rename_i l _ _ q rest _
    rw [State.serve_eq]
    have htaken : s.OnlyHands (s.headTaken l rest) := .of_same rfl rfl
    exact htaken.trans (State.noteUnplanned_onlyHands q _)

theorem recordTime_onlyHands (s : State) : s.OnlyHands (recordTime s) := by
  unfold recordTime
  repeat' split
  all_goals exact .of_same rfl rfl

theorem passComplete_onlyHands (s : State) : s.OnlyHands (passComplete s) := by
  unfold passComplete
  split
  · rename_i p _
    obtain ⟨_, _, _, e, -⟩ := s.completePass_eq p
    have hclock : (s.completePass p).clock = s.clock := by rw [e]; rfl
    rw [State.releaseReadGroup_frame]
    exact ⟨hclock, _, s.completePass_hands p⟩
  · exact .refl s

/-! ### The expiries, at their moment or later (log entry 2) -/

section Expiry
variable {s : State} (u : Uplink)

theorem lossQualifyExpiry_eventsSound (h : EventsSound s) : EventsSound (lossQualifyExpiry u s) := by
  cases ht : (s.uplink u).lossTimer with
  | none => rwa [lossQualifyExpiry_stopped ht]
  | some e => rw [lossQualifyExpiry_running ht]; exact (h.advanceTo e).onlyHands (State.handOver_onlyHands _ _ _)

theorem lightQualifyExpiry_eventsSound (h : EventsSound s) : EventsSound (lightQualifyExpiry u s) := by
  cases ht : (s.uplink u).lightTimer with
  | none => rwa [lightQualifyExpiry_stopped ht]
  | some e => rw [lightQualifyExpiry_running ht]; exact (h.advanceTo e).onlyHands (State.handOver_onlyHands _ _ _)

theorem holdOffExpiry_eventsSound (h : EventsSound s) : EventsSound (holdOffExpiry u s) := by
  unfold holdOffExpiry
  split
  · rename_i e _
    exact (h.advanceTo e).onlyHands (State.settleHealth_onlyHands _ _ _ _)
  · exact h

theorem waitToRestoreExpiry_eventsSound (h : EventsSound s) : EventsSound (waitToRestoreExpiry u s) := by
  unfold waitToRestoreExpiry
  split
  · rename_i e _
    exact (h.advanceTo e).onlyHands (State.settleHealth_onlyHands _ _ _ _)
  · exact h

theorem probeEmission_eventsSound (h : EventsSound s) : EventsSound (probeEmission u s) := by
  unfold probeEmission
  split
  · rename_i e _
    exact (h.advanceTo e).onlyHands (State.emit_onlyHands u _)
  · exact h

theorem continuityDeadlineExpiry_eventsSound (h : EventsSound s) : EventsSound (continuityDeadlineExpiry u s) := by
  cases hd : (s.uplink u).deadline with
  | stopped => rwa [continuityDeadlineExpiry_stopped (.inl hd)]
  | suspended => rwa [continuityDeadlineExpiry_stopped (.inr hd)]
  | running e =>
    rw [continuityDeadlineExpiry_running hd]
    exact (h.advanceTo e).onlyHands (State.handOver_onlyHands _ _ _)

/-- R141: the link going DOWN is reported at the moment of the expiry. -/
theorem silenceExpiry_eventsSound (h : EventsSound s) : EventsSound (silenceExpiry s) := by
  unfold silenceExpiry
  split
  · rename_i run _
    refine (h.advanceTo run.expiry).onlyHands (State.OnlyHands.trans ?_ (State.raise_onlyHands _ _))
    exact .of_same rfl rfl
  · exact h

/-- R156: the linger timer's own expiry. -/
theorem lingerExpiry_eventsSound (h : EventsSound s) : EventsSound (lingerExpiry s) := by
  unfold lingerExpiry
  split
  · rename_i e ht
    have hlater := h.advanceTo e
    rw [eventsSound_iff] at hlater ⊢
    exact ⟨hlater.1.expire ht (by rw [State.advanceTo_now]; exact Nat.le_max_left _ _), hlater.2⟩
  · exact h
  · exact h

end Expiry

/-! ### The commands -/

theorem doSetUplink_onlyHands (f : UplinkFields) (s : State) : s.OnlyHands (doSetUplink f s).1 := by
  cases hj : judgeSettings f with
  | bad e => rw [doSetUplink_bad hj]; exact .refl s
  | good v =>
    rw [doSetUplink_good hj]
    unfold State.afterSettings
    simp only
    split
    · exact (State.handOver_onlyHands _ _ s).trans (State.emitAtStart_onlyHands _ _)
    · exact State.handOver_onlyHands _ _ s

theorem State.setAdmin_onlyHands (u : Uplink) (m : AdminMode) (s : State) : s.OnlyHands (s.setAdmin u m) := by
  unfold State.setAdmin
  simp only
  split
  · exact .refl s
  · split
    · exact State.settleHealth_onlyHands _ _ s s
    · split
      · unfold State.enableUplink
        simp only
        split
        · exact (State.settleHealth_onlyHands _ _ s s).trans (State.emitAtStart_onlyHands u _)
        · exact State.settleHealth_onlyHands _ _ s s
      · exact State.settleHealth_onlyHands _ _ s s

theorem doSetAdmin_onlyHands (b mode : Byte) (s : State) : s.OnlyHands (doSetAdmin b mode s).1 := by
  unfold doSetAdmin
  split
  · exact .refl s
  · split
    · exact .refl s
    · exact State.setAdmin_onlyHands _ _ s

theorem doForceRestore_onlyHands (b : Byte) (s : State) : s.OnlyHands (doForceRestore b s).1 := by
  unfold doForceRestore
  split
  · exact .refl s
  · split
    · exact State.settleHealth_onlyHands _ _ s s
    · exact .refl s

theorem doSetConduit_onlyHands (b trip : Byte) (s : State) : s.OnlyHands (doSetConduit b trip s).1 := by
  unfold doSetConduit
  split
  · exact .refl s
  · rename_i c _
    exact State.evaluateUsability_onlyHands _ _ (s.setConduit c _) _

theorem doSwap_onlyHands (s : State) : s.OnlyHands (doSwap s).1 := by
  unfold doSwap
  split
  · exact .refl s
  · exact State.deliver_onlyHands _ _ { s with plans := { s.plans with swapInFlight := true } }

theorem doRebalance_onlyHands (t : RebalanceTarget) (s : State) : s.OnlyHands (doRebalance t s).1 := by
  unfold doRebalance
  repeat' split
  · exact .refl s
  · exact State.deliver_onlyHands _ _ s
  · exact State.deliver_onlyHands _ _ s

theorem doSetLane_onlyHands (l e p r : Byte) (s : State) : s.OnlyHands (doSetLane l e p r s).1 := by
  unfold doSetLane
  repeat' split
  · exact .refl s
  · exact .refl s
  · simp only
    rw [State.evaluateMarks_setLane]
    exact .of_same rfl rfl

/-- R157: the alert settings at their nearest bounds. -/
theorem doSetAlert_eventsSound (t : Byte) (l : Half) (u : Byte) {s : State} (h : EventsSound s) :
    EventsSound (doSetAlert t l u s).1 := by
  unfold doSetAlert
  split
  · exact h
  · rw [eventsSound_iff] at h ⊢
    exact ⟨h.1.setAlert (clampTo_bounds t.toNat (by decide)) (clampTo_zero_le 1000 l.toNat) _, h.2⟩

/-- R149: the time base loaded moves no moment. -/
theorem doSetTime_eventsSound (n : Word) {s : State} (h : EventsSound s) : EventsSound (doSetTime n s).1 := by
  rw [eventsSound_iff] at h ⊢
  exact ⟨h.1, Nat.zero_lt_succ _⟩

/-- R154: records fetched. -/
theorem doFetchEvents_eventsSound (n : Byte) {s : State} (h : EventsSound s) : EventsSound (doFetchEvents n s).1 := by
  rw [eventsSound_iff] at h ⊢
  exact ⟨h.1.fetch _, h.2⟩

/-- R165: a command taken; its reply is no part of the queue. -/
theorem takeCommand_eventsSound (tag : Byte) (c : Command) {s : State} (h : EventsSound s) :
    EventsSound (takeCommand tag c s) := by
  cases c with
  | identify => exact h
  | getStatus => exact h
  | setTime n => exact doSetTime_eventsSound (s := s) n h
  | setUplink f => exact h.onlyHands (doSetUplink_onlyHands f s)
  | getUplink u =>
    show EventsSound (doGetUplink u s).1
    unfold doGetUplink
    split <;> exact h
  | setAdmin u m => exact h.onlyHands (doSetAdmin_onlyHands u m s)
  | forceRestore u => exact h.onlyHands (doForceRestore_onlyHands u s)
  | clearLatch u =>
    show EventsSound (doClearLatch u s).1
    unfold doClearLatch
    split <;> exact h
  | setConduit d t => exact h.onlyHands (doSetConduit_onlyHands d t s)
  | writePlan f =>
    show EventsSound (doWritePlan f s).1
    unfold doWritePlan
    repeat' split
    all_goals exact h
  | clearPlan g =>
    show EventsSound (doClearPlan g s).1
    unfold doClearPlan
    repeat' split
    all_goals exact h
  | copyActive =>
    show EventsSound (doCopyActive s).1
    unfold doCopyActive
    split <;> exact h
  | readPlan g b =>
    show EventsSound (doReadPlan g b s).1
    unfold doReadPlan
    repeat' split
    all_goals exact h
  | swap => exact h.onlyHands (doSwap_onlyHands s)
  | readGroup g =>
    show EventsSound (takeReadGroup tag g s)
    unfold takeReadGroup
    repeat' split
    all_goals exact h
  | rebalance t => exact h.onlyHands (doRebalance_onlyHands t s)
  | setLane l e p r => exact h.onlyHands (doSetLane_onlyHands l e p r s)
  | setFwdlink t => exact h
  | setAlert t l u => exact doSetAlert_eventsSound t l u h
  | fetchEvents n => exact doFetchEvents_eventsSound (s := s) n h
  | reset => exact h

/-! ### Every step -/

theorem eventsSound_keptByRows : KeptByRows EventsSound where
  control _ _ h := h
  command tag c _ h := takeCommand_eventsSound tag c h
  reset _ _ _ := State.reset_eventsSound
  pending _ _ h := h
  tick {s} h := by
    unfold State.tick
    split
    · exact h
    · exact h.advance 1
  release h := h
  losEdge u level s h := h.onlyHands (losEdge_onlyHands u level s)
  lossQualifyExpiry u _ h := lossQualifyExpiry_eventsSound u h
  lightQualifyExpiry u _ h := lightQualifyExpiry_eventsSound u h
  holdOffExpiry u _ h := holdOffExpiry_eventsSound u h
  waitToRestoreExpiry u _ h := waitToRestoreExpiry_eventsSound u h
  probeEmission u _ h := probeEmission_eventsSound u h
  continuityDeadlineExpiry u _ h := continuityDeadlineExpiry_eventsSound u h
  recordArrival r s h := h.onlyHands (recordArrival_onlyHands r s)
  countHeaderError h := h
  silenceExpiry h := silenceExpiry_eventsSound h
  serviceBegin {s} h := h.onlyHands (serviceBegin_onlyHands s)
  recordTime {s} h := h.onlyHands (recordTime_onlyHands s)
  passBegin {s} h := by
    rw [passBegin_frame]
    exact h
  passComplete {s} h := h.onlyHands (passComplete_onlyHands s)
  lingerExpiry h := lingerExpiry_eventsSound h

/-- Settles O56: a step that does not act on the queue itself lets time pass and hands records to it, and both keep it
sound. -/
theorem stepsKeepEventsSound : Obligations.StepsKeepEventsSound := fun _ _ h ht => eventsSound_keptByRows.step h ht

end Sys2Proof.Machine
end

section
/-! IDENTIFY (O21), a part held by RESET (O5), the RESET command (O4), and the queue of commands (O51). -/

namespace Sys2Proof.Machine

/-! ### IDENTIFY (R168) -/

/-- Section 11.3: the capacities as bytes. -/
theorem identifyItems_eq : identifyItems =
    [0x00#8, 0x16#8, 0#8, 16#8, 8#8, 0x04#8, 0x00#8, 2#8, 8#8, 64#8, 4#8, 16#8, 64#8, 8#8, 0x02#8, 0x00#8] := by
  decide

/-- Settles O21: IDENTIFY's effect is none, so its reply is all it does. -/
theorem identifyReportsTheCapacities : Obligations.IdentifyReportsTheCapacities := by
  intro tag s hs
  have hreply : s.Answers (finish 0x01#8 tag (doIdentify s)) 0x01#8 tag (.ok false identifyItems) :=
    State.answers_finish _ _ _ rfl
  rw [identifyItems_eq] at hreply
  exact ⟨_, exec_rowOf hs tag .identify, rfl, hreply⟩

/-! ### A part held by RESET (R174) -/

/-- R174: behind the running gate, which every row but the edges and the RESET input's own passes, nothing happens. -/
theorem exec_of_held {s : State} (h : s.resetHeld = true) {c : Instr} (ha : c ≠ .resetInputAssert)
    (hr : c ≠ .resetInputRelease) (hedge : ∀ u, c ≠ .losAssert u ∧ c ≠ .losDeassert u) : exec c s = .next s := by
  cases c with
  | losAssert u => exact absurd rfl (hedge u).1
  | losDeassert u => exact absurd rfl (hedge u).2
  | resetInputAssert => exact absurd rfl ha
  | resetInputRelease => exact absurd rfl hr
  | _ => exact whenRunning_of_held h _

/-- R174: an edge at a held part writes the level of its input. -/
theorem losEdge_of_held {s : State} (h : s.resetHeld = true) (u : Uplink) (level : Bool) :
    losEdge u level s = { s with uplinks := (losEdge u level s).uplinks }
      ∧ ∀ v, (losEdge u level s).uplink v = if v = u then { s.uplink u with losPin := level } else s.uplink v := by
  rw [losEdge_pin (.inl h)]
  refine ⟨rfl, fun v => ?_⟩
  rw [State.uplink_setUplink]
  simp only [eq_comm]

/-- Settles O5. -/
theorem heldPartIgnoresEvents : Obligations.HeldPartIgnoresEvents := by
  intro s h
  refine ⟨fun c ha hr hedge => exec_of_held h ha hr hedge, fun u => ?_⟩
  obtain ⟨hframe, hlevels⟩ := losEdge_of_held h u true
  obtain ⟨hframe', hlevels'⟩ := losEdge_of_held h u false
  exact ⟨_, _, exec_losAssert u s, exec_losDeassert u s, hframe, hframe', hlevels, hlevels'⟩

/-! ### The RESET command (R173) -/

/-- R174: RESET held and released, with nothing in between, is a reset that nothing holds. -/
theorem State.releaseReset_toReset (s : State) : (s.toReset true).releaseReset = s.toReset false := by
  have hraw : (Vector.ofFn fun u => { (s.toReset true).uplink u with
      rawLos := ((s.toReset true).uplink u).losPin }) = (s.toReset false).uplinks :=
    vector_ext_get fun u => by
      rw [vector_get_ofFn, State.uplink_toReset]
      exact (State.uplink_toReset s false u).symm
  unfold State.releaseReset
  rw [hraw]
  rfl

/-- R173: a RESET taken at a port with no reply to be sent. -/
theorem takeReset_eq (tag : Byte) {s : State} (h : s.control.replies = []) : takeReset tag s =
    { s with control := { s.control with
      inHand := some { tag, command := .reset },
      replies := [{ type := 0x3F#8, tag, body := .ok false [] }] } } := by
  unfold takeReset State.hold State.reply
  rw [h]
  rfl

/-- R173: the end of RESET's reply resets the part. -/
theorem replySent_reset {s : State} {tag : Byte} {r : Reply} {rest : List Reply}
    (hh : s.control.inHand = some { tag, command := .reset }) (hr : s.control.replies = r :: rest) :
    replySent s = ({ s with control := { s.control with ctx := some r } } : State).toReset false := by
  unfold replySent
  simp only [hr, hh]
  rfl

/-- Settles O4: both ways the reply is shown as sent, and then the part is reset. -/
theorem resetCommandResetsAfterItsReply : Obligations.ResetCommandResetsAfterItsReply := by
  refine ⟨fun tag s hs => ?_, fun tag r rest s hheld hh hr => ?_⟩
  · obtain ⟨-, -, -, hreplies⟩ := id hs
    rw [← takeReset_eq tag hreplies]
    exact exec_rowOf hs tag .reset
  · have hassert : exec .resetInputAssert s =
        .next (({ s with control := { s.control with ctx := some r } } : State).toReset true) := by
      rw [← State.finishResetReply_reset hh hr]
      rfl
    have hsent : exec .replySent s = .next (replySent s) := whenRunning_of_released hheld replySent
    rw [replySent_reset hh hr, ← State.releaseReset_toReset] at hsent
    exact ⟨_, _, hassert, rfl, hsent, rfl⟩

/-! ### The queue of commands (R164, R165) -/

/-- The row of a command is its arrival at the queue (log entry 4). -/
theorem exec_rowOf_of_released {s : State} (hr : s.resetHeld = false) (tag : Byte) (c : Command) :
    exec (rowOf tag c) s = .next (receiveCommand tag c s) := by
  have hrow : exec (rowOf tag c) s = whenRunning s (receiveCommand tag c) := by cases c <;> rfl
  rw [hrow, whenRunning_of_released hr]

/-- R165: a command in hand, or a reply to be sent, keeps the next from being taken. -/
theorem State.mayTake_eq_false {s : State} (h : s.control.inHand ≠ none ∨ s.control.replies ≠ []) :
    s.mayTake = false := by
  unfold State.mayTake
  rw [Bool.and_eq_false_iff, Option.isNone_eq_false_iff, Option.isSome_iff_ne_none, List.isEmpty_eq_false_iff]
  exact h

/-- R165: with something ahead, or none waiting, no command is taken. -/
theorem State.takeNext_idle {s : State}
    (h : s.control.inHand ≠ none ∨ s.control.replies ≠ [] ∨ s.control.queue = []) : s.takeNext = s := by
  rcases or_assoc.2 h with hbusy | hqueue
  · unfold State.takeNext
    rw [if_neg (by rw [State.mayTake_eq_false hbusy]; exact Bool.false_ne_true)]
  · exact State.takeNext_empty hqueue

/-- R166: the end of a reply that is not RESET's. -/
theorem replySent_other {s : State} {r : Reply} {rest : List Reply} (hr : s.control.replies = r :: rest)
    (hh : ∀ tag, s.control.inHand ≠ some { tag, command := .reset }) :
    replySent s =
      ({ s with control := { s.control with replies := rest, ctx := some r } } : State).takeNext := by
  unfold replySent
  rw [hr]
  dsimp only
  split
  · rename_i tag hreset
    exact absurd hreset (hh tag)
  · rfl

/-- Settles O51: the three fates of an arrival, and the three of a reply's end. -/
theorem commandsWaitTheirTurn : Obligations.CommandsWaitTheirTurn := by
  refine ⟨fun c tag s hheld => ⟨fun hfull => ?_, fun hroom hbusy => ?_, fun hs => exec_rowOf hs tag c⟩,
    fun s hheld => ?_⟩
  · rw [exec_rowOf_of_released hheld, receiveCommand_full tag c hfull]
    rfl
  · rw [exec_rowOf_of_released hheld, receiveCommand_waits tag c hroom (State.mayTake_eq_false hbusy)]
  have hsent : exec .replySent s = .next (replySent s) := whenRunning_of_released hheld replySent
  rw [hsent]
  refine ⟨fun hnone => ?_, fun r rest hr hother => ⟨fun hidle => ?_, fun q waiting hh hrest hq => ?_⟩⟩
  · unfold replySent
    rw [hnone]
  · rw [replySent_other hr hother, State.takeNext_idle hidle]
  · subst hrest
    rw [replySent_takes hh hr hq]

end Sys2Proof.Machine
end

section
/-! SUPPORT. The RESET input is no concern of the control port: a byte taken leaves it as it is, so that a frame is its
bytes taken one after another (log entry 5). -/

namespace Sys2Proof.Machine

/-! ### The commands -/

/-- R174: what a change of one uplink leaves of RESET. -/
theorem State.SameBeyondUplinks.resetHeld {s t : State} (h : s.SameBeyondUplinks t) : t.resetHeld = s.resetHeld := by
  obtain ⟨⟨-, -, -, -, -, -, -, -, -, hheld, -⟩, -⟩ := h
  exact hheld

theorem State.SameMonitor.resetHeld {s t : State} (h : s.SameMonitor t) : t.resetHeld = s.resetHeld := by
  obtain ⟨-, -, hheld⟩ := h
  exact hheld

theorem State.settleHealth_resetHeld (u : Uplink) (y : UplinkState × List Event) (s : State) :
    (s.settleHealth u y s).resetHeld = s.resetHeld := (State.settleHealth_spec u y s).1.resetHeld

theorem State.emitAtStart_resetHeld (u : Uplink) (s : State) : (s.emitAtStart u).resetHeld = s.resetHeld := by
  unfold State.emitAtStart
  split
  · cases hc : (s.uplink u).clock with
    | stopped => rw [State.emit_stopped hc]
    | running start n => rw [State.emit_running hc, State.handProbe_resetHeld, State.setUplink_resetHeld]
  · rfl

theorem State.setAdmin_resetHeld (u : Uplink) (m : AdminMode) (s : State) :
    (s.setAdmin u m).resetHeld = s.resetHeld := by
  have henable : (s.enableUplink u m).resetHeld = s.resetHeld := by
    unfold State.enableUplink
    dsimp only
    split
    · rw [State.emitAtStart_resetHeld, State.settleHealth_resetHeld]
    · exact State.settleHealth_resetHeld _ _ s
  unfold State.setAdmin
  dsimp only
  split
  · rfl
  · split
    · exact State.settleHealth_resetHeld _ _ s
    · split
      · exact henable
      · exact State.settleHealth_resetHeld _ _ s

theorem doSetUplink_resetHeld (f : UplinkFields) (s : State) : (doSetUplink f s).1.resetHeld = s.resetHeld := by
  cases h : judgeSettings f with
  | bad e => rw [doSetUplink_bad h]
  | good v => rw [doSetUplink_good h]; exact (State.afterSettings_frame v.1 v.2 s).1.resetHeld

theorem doSetAdmin_resetHeld (b mode : Byte) (s : State) : (doSetAdmin b mode s).1.resetHeld = s.resetHeld := by
  unfold doSetAdmin
  repeat' split
  · rfl
  · rfl
  · exact State.setAdmin_resetHeld _ _ s

theorem doForceRestore_resetHeld (b : Byte) (s : State) : (doForceRestore b s).1.resetHeld = s.resetHeld := by
  unfold doForceRestore
  repeat' split
  · rfl
  · exact State.settleHealth_resetHeld _ _ s
  · rfl

theorem doSetConduit_resetHeld (b trip : Byte) (s : State) : (doSetConduit b trip s).1.resetHeld = s.resetHeld := by
  unfold doSetConduit
  split
  · rfl
  · dsimp only
    rw [State.evaluateUsability_frame]
    rfl

/-- A command taken neither holds nor releases RESET; RESET's own follows its reply (R173). -/
theorem takeCommand_resetHeld (tag : Byte) (c : Command) (s : State) :
    (takeCommand tag c s).resetHeld = s.resetHeld := by
  cases c with
  | setUplink f => exact doSetUplink_resetHeld f s
  | getUplink u =>
    show (doGetUplink u s).1.resetHeld = _
    unfold doGetUplink
    split <;> rfl
  | setAdmin u m => exact doSetAdmin_resetHeld u m s
  | forceRestore u => exact doForceRestore_resetHeld u s
  | clearLatch u =>
    show (doClearLatch u s).1.resetHeld = _
    unfold doClearLatch
    split <;> rfl
  | setConduit d t => exact doSetConduit_resetHeld d t s
  | writePlan f => exact (doWritePlan_sameMonitor f s).resetHeld
  | clearPlan g => exact (doClearPlan_sameMonitor g s).resetHeld
  | copyActive => exact (doCopyActive_sameMonitor s).resetHeld
  | readPlan g b => exact (doReadPlan_sameMonitor g b s).resetHeld
  | swap => exact (doSwap_sameMonitor s).resetHeld
  | readGroup g => exact (takeReadGroup_sameMonitor tag g s).resetHeld
  | rebalance t => exact (doRebalance_sameMonitor t s).resetHeld
  | setLane l e p r => exact (doSetLane_sameMonitor l e p r s).resetHeld
  | setAlert t l u => exact (doSetAlert_sameMonitor t l u s).resetHeld
  | identify | getStatus | setTime _ | setFwdlink _ | fetchEvents _ | reset => rfl

/-! ### The receiver -/

theorem State.takeNext_resetHeld (s : State) : s.takeNext.resetHeld = s.resetHeld := by
  unfold State.takeNext
  repeat' split
  · rfl
  · exact takeCommand_resetHeld _ _ _
  · rfl

theorem receiveWhole_resetHeld (type tag : Byte) (payload : List Byte) (s : State) :
    (receiveWhole type tag payload s).resetHeld = s.resetHeld := by
  unfold receiveWhole receiveCommand
  repeat' split
  · rfl
  · rfl
  · exact State.takeNext_resetHeld _
  · rfl

theorem judgeFrame_resetHeld (frame : List Byte) (s : State) : (judgeFrame frame s).resetHeld = s.resetHeld := by
  unfold judgeFrame
  dsimp only
  repeat' split
  · exact receiveWhole_resetHeld _ _ _ s.hunt
  all_goals rfl

/-- R161: a byte taken neither holds nor releases RESET. -/
theorem takeByte_resetHeld (b : Byte) (s : State) : (takeByte b s).resetHeld = s.resetHeld := by
  unfold takeByte
  cases s.control.rx with
  | hunting => dsimp only; split <;> rfl
  | length =>
    dsimp only
    repeat' split
    all_goals rfl
  | body => rfl
  | check => dsimp only; split <;> [rfl; exact judgeFrame_resetHeld _ s]

/-! ### Bytes one after another -/

/-- R161, R174: what CONTROL_BYTE_TAKEN does: a byte taken, unless RESET holds the part. -/
def State.offered (s : State) (b : Byte) : State := if s.resetHeld then s else takeByte b s

theorem exec_controlByteTaken (b : Byte) (s : State) : exec (.controlByteTaken b) s = .next (s.offered b) := rfl

theorem State.offered_of_held {s : State} (h : s.resetHeld = true) (b : Byte) : s.offered b = s := if_pos h

theorem State.offered_of_released {s : State} (h : s.resetHeld = false) (b : Byte) : s.offered b = takeByte b s :=
  if_neg (by rw [h]; exact Bool.false_ne_true)

theorem State.foldl_offered_of_held {s : State} (h : s.resetHeld = true) (bs : List Byte) :
    bs.foldl State.offered s = s := by
  induction bs with
  | nil => rfl
  | cons b bs ih => rw [List.foldl_cons, State.offered_of_held h, ih]

theorem State.foldl_offered_of_released {s : State} (h : s.resetHeld = false) (bs : List Byte) :
    bs.foldl State.offered s = takeBytes bs s := by
  induction bs generalizing s with
  | nil => rfl
  | cons b bs ih =>
    rw [List.foldl_cons, State.offered_of_released h, ih ((takeByte_resetHeld b s).trans h)]
    rfl

/-- FRAME_RECEIVED is its bytes offered one after another (log entry 5), also at a held part. -/
theorem exec_frameReceived (body : List Byte) (check : Half) (s : State) :
    exec (.frameReceived body check) s = .next ((frameBytes body check).foldl State.offered s) := by
  show whenRunning s (takeBytes (frameBytes body check)) = _
  cases h : s.resetHeld with
  | true => rw [whenRunning_of_held h, State.foldl_offered_of_held h]
  | false => rw [whenRunning_of_released h, State.foldl_offered_of_released h]

end Sys2Proof.Machine
end

section
/-! The receiver, byte by byte (O50): each row of the table of R161 as one equation. -/

namespace Sys2Proof.Machine

/-! ### Fields read back (R177) -/

/-- A two-byte field as a number. -/
theorem toNat_half (hi lo : Byte) : (half hi lo).toNat = hi.toNat * 256 + lo.toNat := by
  unfold half
  rw [BitVec.toNat_append, ← Nat.shiftLeft_add_eq_or_of_lt lo.isLt, Nat.shiftLeft_eq]

/-- R161: the length that a frame's first two bytes give. -/
theorem frameLength_cons (h l : Byte) (kept : List Byte) :
    frameLength (h :: l :: kept) = h.toNat * 256 + l.toNat := toNat_half h l

/-- R162: a frame's sum with its check, as a number. -/
theorem byteSum_add_half_eq_zero (bs : List Byte) (hi lo : Byte) : byteSum bs + half hi lo = 0#16 ↔
    (bs.foldl (fun n x => n + x.toNat) 0 + (hi.toNat * 256 + lo.toNat)) % 65536 = 0 := by
  rw [← BitVec.toNat_inj, BitVec.toNat_add, byteSum_toNat, toNat_half, Nat.mod_add_mod]
  rfl

/-! ### A frame judged (R162, R163) -/

section Judged
variable {h l hi lo : Byte} {body : List Byte} (hlength : body.length = (half h l).toNat) (s : State)
include hlength

/-- R162: the two check bytes follow what the length counts. -/
theorem frame_split : (h :: l :: (body ++ [hi, lo])).take (frameLength (h :: l :: (body ++ [hi, lo])) + 2)
      = h :: l :: body
    ∧ (h :: l :: (body ++ [hi, lo])).drop (frameLength (h :: l :: (body ++ [hi, lo])) + 2) = [hi, lo] := by
  have hcount : frameLength (h :: l :: (body ++ [hi, lo])) = body.length := hlength.symm
  rw [hcount, List.take_succ_cons, List.take_succ_cons, List.drop_succ_cons, List.drop_succ_cons, List.take_left,
    List.drop_left]
  exact ⟨rfl, rfl⟩

/-- R162: a frame with a failing check is discarded. -/
theorem judgeFrame_bad (hcheck : byteSum (h :: l :: body) + half hi lo ≠ 0#16) :
    judgeFrame (h :: l :: (body ++ [hi, lo])) s = s.discardFrame := by
  obtain ⟨htake, hdrop⟩ := frame_split (hi := hi) (lo := lo) hlength
  unfold judgeFrame
  simp only [htake, hdrop, if_neg hcheck]

/-- R163: a frame with a sound check is received whole. -/
theorem judgeFrame_sound {type tag : Byte} {payload : List Byte} (hbody : body = type :: tag :: payload)
    (hcheck : byteSum (h :: l :: body) + half hi lo = 0#16) :
    judgeFrame (h :: l :: (body ++ [hi, lo])) s = receiveWhole type tag payload s.hunt := by
  obtain ⟨htake, hdrop⟩ := frame_split (hi := hi) (lo := lo) hlength
  unfold judgeFrame
  simp only [htake, hdrop, if_pos hcheck]
  rw [hbody]
  rfl

end Judged

/-! ### The table of R161 -/

section Table
variable {s : State} {h l : Byte} {kept : List Byte} (b : Byte)

theorem takeByte_hunting (hrx : s.control.rx = .hunting) :
    takeByte b s = if b = startByte then s.keep .length [] else s := by
  unfold takeByte
  rw [hrx]

theorem takeByte_lengthHigh (hrx : s.control.rx = .length) (hf : s.control.frame = []) :
    takeByte b s = s.keep .length [b] := by
  unfold takeByte
  rw [hrx, hf]
  rfl

theorem takeByte_lengthLow (hrx : s.control.rx = .length) (hf : s.control.frame = [h]) :
    takeByte b s = if 2 ≤ h.toNat * 256 + b.toNat ∧ h.toNat * 256 + b.toNat ≤ 514 then s.keep .body [h, b]
      else s.discardFrame := by
  rw [← toNat_half]
  unfold takeByte
  rw [hrx, hf]
  rfl

theorem takeByte_body (hrx : s.control.rx = .body) (hf : s.control.frame = h :: l :: kept) :
    takeByte b s = s.keep (if kept.length + 1 < h.toNat * 256 + l.toNat then .body else .check)
      (h :: l :: (kept ++ [b])) := by
  have hcount : (h :: l :: kept ++ [b]).length < frameLength (h :: l :: kept ++ [b]) + 2 ↔
      kept.length + 1 < h.toNat * 256 + l.toNat := by
    rw [List.cons_append, List.cons_append, frameLength_cons]
    simp only [List.length_append, List.length_cons, List.length_nil]
    omega
  unfold takeByte
  simp only [hrx, hf, hcount]
  rfl

theorem takeByte_check (hrx : s.control.rx = .check) (hf : s.control.frame = h :: l :: kept) :
    takeByte b s = if kept.length < h.toNat * 256 + l.toNat + 1 then s.keep .check (h :: l :: (kept ++ [b]))
      else judgeFrame (h :: l :: (kept ++ [b])) s := by
  have hcount : (h :: l :: kept ++ [b]).length < frameLength (h :: l :: kept ++ [b]) + 4 ↔
      kept.length < h.toNat * 256 + l.toNat + 1 := by
    rw [List.cons_append, List.cons_append, frameLength_cons]
    simp only [List.length_append, List.length_cons, List.length_nil]
    omega
  unfold takeByte
  simp only [hrx, hf, hcount]
  rfl

end Table

/-- R161: a sound receiver holds fewer bytes than the length counts in BODY, and no fewer in CHECK. -/
theorem ControlState.ReceiverSound.kept_lt {c : ControlState} (hc : c.ReceiverSound) {h l : Byte} {kept : List Byte}
    (hf : c.frame = h :: l :: kept) :
    (c.rx = .body → kept.length < h.toNat * 256 + l.toNat)
      ∧ (c.rx = .check → h.toNat * 256 + l.toNat ≤ kept.length) := by
  unfold ControlState.ReceiverSound at hc
  refine ⟨fun hrx => ?_, fun hrx => ?_⟩ <;> simp only [hrx, hf, frameLength_cons, List.length_cons] at hc
  · obtain ⟨-, -, -, hshort⟩ := hc
    exact Nat.lt_of_add_lt_add_right (n := 2) hshort
  · obtain ⟨-, -, hlong, -⟩ := hc
    exact Nat.le_of_add_le_add_right (b := 2) hlong

/-- Settles O50. -/
theorem receiverTakesBytesByItsTable : Obligations.ReceiverTakesBytesByItsTable := by
  refine ⟨fun b s hheld hsound => ?_, fun body check s =>
    ⟨State.offered, fun t b => exec_controlByteTaken b t, exec_frameReceived body check s⟩⟩
  have hexec : exec (.controlByteTaken b) s = .next (takeByte b s) := whenRunning_of_released hheld (takeByte b)
  have hdiscard : s.discardFrame = { s with control := { s.control with
      rx := .hunting, frame := [], frameErrors := min 255 (s.control.frameErrors + 1) } } := by
    rw [← saturating_eq_min]
    rfl
  dsimp only
  rw [hexec, ← hdiscard]
  refine ⟨fun hrx => ?_, fun hrx hf => ?_, fun h hrx hf => ?_, fun h l kept hstate hf => ?_⟩
  · rw [takeByte_hunting b hrx]
    rfl
  · rw [takeByte_lengthHigh b hrx hf]
    rfl
  · rw [takeByte_lengthLow b hrx hf]
    rfl
  obtain ⟨hbody, hcheck⟩ := hsound.kept_lt hf
  rw [hf]
  refine ⟨fun hn => ?_, fun hn => ?_, fun hn body hi hkept => ?_⟩
  · have hrx : s.control.rx = .body := hstate.resolve_right fun hrx => by have := hcheck hrx; omega
    rw [takeByte_body b hrx hf, if_pos hn]
    rfl
  · rcases hstate with hrx | hrx
    · have := hbody hrx
      rw [takeByte_body b hrx hf, if_neg (by omega)]
      rfl
    · have := hcheck hrx
      rw [takeByte_check b hrx hf, if_pos (by omega)]
      rfl
  · have hrx : s.control.rx = .check := hstate.resolve_left fun hrx => by have := hbody hrx; omega
    have hlength : body.length = (half h l).toNat := by
      rw [toNat_half]
      rw [hkept, List.length_append] at hn
      exact Nat.succ.inj hn
    have hjudged : takeByte b s = judgeFrame (h :: l :: (body ++ [hi, b])) s := by
      rw [takeByte_check b hrx hf, if_neg (by omega), hkept, List.append_assoc]
      rfl
    rw [hjudged]
    refine ⟨fun hsum => ?_, fun hsum type tag payload htype => ?_⟩
    · rw [judgeFrame_bad hlength s (mt (byteSum_add_half_eq_zero _ _ _).1 hsum)]
    · rw [judgeFrame_sound hlength s htype ((byteSum_add_half_eq_zero _ _ _).2 hsum)]
      unfold receiveWhole
      cases hparse : parseCommand type payload with
      | unknown => rfl
      | malformed => rfl
      | command c => exact (exec_rowOf_of_released (s := s.hunt) hheld tag c).symm

end Sys2Proof.Machine
end

section
/-! Commands on the wire (O49): the layouts of R179 read back, and a sound frame from its start byte to its check. -/

namespace Sys2Proof.Machine

/-! ### Fields as bytes (R177) -/

theorem half_of_bytes (h : Half) : half (h.extractLsb' 8 8) (h.extractLsb' 0 8) = h := half_extractLsb' h

theorem word_of_bytes (w : Word) :
    word (w.extractLsb' 24 8) (w.extractLsb' 16 8) (w.extractLsb' 8 8) (w.extractLsb' 0 8) = w := by
  unfold word
  rw [BitVec.extractLsb'_append_extractLsb'_eq_extractLsb' (by decide),
    BitVec.extractLsb'_append_extractLsb'_eq_extractLsb' (by decide),
    BitVec.extractLsb'_append_extractLsb'_eq_extractLsb' (by decide)]
  exact BitVec.extractLsb'_eq_self

theorem Half.bytes_half (hi lo : Byte) : Half.bytes (half hi lo) = [hi, lo] := by
  unfold Half.bytes half
  rw [BitVec.extractLsb'_append_eq_left, BitVec.extractLsb'_append_eq_right]

theorem Word.bytes_append (hi lo : Half) : Word.bytes (hi ++ lo) = Half.bytes hi ++ Half.bytes lo := by
  have high : ∀ start, (hi ++ lo).extractLsb' (start + 16) 8 = hi.extractLsb' start 8 := fun start => by
    rw [BitVec.extractLsb'_append_eq_of_le (Nat.le_add_left _ _), Nat.add_sub_cancel]
  have low : ∀ start, start + 8 ≤ 16 → (hi ++ lo).extractLsb' start 8 = lo.extractLsb' start 8 := fun start h =>
    BitVec.extractLsb'_append_eq_of_add_le h
  show [_, _, _, _] = [_, _, _, _]
  rw [high 8, high 0, low 8 (by decide), low 0 (by decide)]

theorem Word.bytes_word (b3 b2 b1 b0 : Byte) : Word.bytes (word b3 b2 b1 b0) = [b3, b2, b1, b0] := by
  show Word.bytes (half b3 b2 ++ half b1 b0) = _
  rw [Word.bytes_append, Half.bytes_half, Half.bytes_half]
  rfl

/-- A count below 256 is its byte. -/
theorem byte_toNat {n : Nat} (h : n < 256) : (byte n).toNat = n := by
  unfold byte
  rw [BitVec.toNat_ofNat, Nat.mod_eq_of_lt h]

theorem byte_of_toNat (b : Byte) : byte b.toNat = b := BitVec.ofNat_toNat 8 b

/-! ### Members and the selector (section 11.4, R113) -/

/-- The members of a plan record as sent. -/
def memberBytes (ms : List (Byte × Byte)) : List Byte := ms.flatMap fun m => [m.1, m.2]

theorem memberBytes_cons (m : Byte × Byte) (ms : List (Byte × Byte)) :
    memberBytes (m :: ms) = m.1 :: m.2 :: memberBytes ms := rfl

theorem memberBytes_length (ms : List (Byte × Byte)) : (memberBytes ms).length = 2 * ms.length := by
  induction ms with
  | nil => rfl
  | cons m ms ih => rw [memberBytes_cons, List.length_cons, List.length_cons, ih, List.length_cons, Nat.mul_succ]

theorem memberPairs_memberBytes (ms : List (Byte × Byte)) : memberPairs (memberBytes ms) = ms := by
  induction ms with
  | nil => rfl
  | cons m ms ih => rw [memberBytes_cons, memberPairs, ih]

theorem memberBytes_memberPairs {n : Nat} {rest : List Byte} (h : rest.length = 2 * n) :
    memberBytes (memberPairs rest) = rest := by
  induction n generalizing rest with
  | zero => rw [List.length_eq_zero_iff.1 h]; rfl
  | succ n ih =>
    match rest, h with
    | u :: w :: rest, h =>
      have hrest : rest.length = 2 * n := by
        rw [List.length_cons, List.length_cons] at h
        omega
      rw [memberPairs, memberBytes_cons, ih hrest]

/-- R113: a group's selector has a clear top bit, and ALL's has not. -/
theorem parseSelector_selector (t : RebalanceTarget) : parseSelector t.selector = .command (.rebalance t) := by
  cases t with
  | group n =>
    have htop : (n.zeroExtend 16).msb = false := by
      have := n.isLt
      rw [BitVec.msb_eq_false_iff_two_mul_lt, BitVec.zeroExtend, BitVec.toNat_setWidth]
      omega
    have hlow : (n.zeroExtend 16).extractLsb' 0 15 = n := by
      have := n.isLt
      refine BitVec.eq_of_toNat_eq ?_
      rw [BitVec.extractLsb'_toNat, BitVec.zeroExtend, BitVec.toNat_setWidth, Nat.shiftRight_zero]
      omega
    show parseSelector (n.zeroExtend 16) = _
    unfold parseSelector
    rw [if_pos htop, hlow]
  | all => rfl

theorem selector_of_parseSelector {s : Half} {c : Command} (h : parseSelector s = .command c) :
    ∃ t : RebalanceTarget, c = .rebalance t ∧ t.selector = s := by
  unfold parseSelector at h
  split at h
  · rename_i htop
    cases h
    refine ⟨_, rfl, ?_⟩
    show (s.extractLsb' 0 15).zeroExtend 16 = s
    rw [BitVec.msb_eq_false_iff_two_mul_lt] at htop
    refine BitVec.eq_of_toNat_eq ?_
    rw [BitVec.zeroExtend, BitVec.toNat_setWidth, BitVec.extractLsb'_toNat, Nat.shiftRight_zero]
    omega
  · split at h
    · rename_i hall
      cases h
      exact ⟨_, rfl, hall.symm⟩
    · cases h

/-! ### WRITE-PLAN (R68, R163) -/

theorem writePlan_payload (f : PlanFields) : (Command.writePlan f).payload =
    f.group.extractLsb' 8 8 :: f.group.extractLsb' 0 8 :: byte f.members.length :: f.fold :: f.revert ::
      f.fallback.extractLsb' 8 8 :: f.fallback.extractLsb' 0 8 :: f.emptyAction :: memberBytes f.members := rfl

/-- R68: a count that a byte can give agrees with the members. -/
theorem parsePlan_payload {f : PlanFields} (h : f.members.length < 256) :
    parsePlan (Command.writePlan f).payload = .command (.writePlan f) := by
  rw [writePlan_payload, parsePlan, if_pos (by rw [byte_toNat h, memberBytes_length]), half_of_bytes, half_of_bytes,
    memberPairs_memberBytes]

theorem payload_of_parsePlan {payload : List Byte} {c : Command} (h : parsePlan payload = .command c) :
    ∃ f, c = .writePlan f ∧ (Command.writePlan f).payload = payload := by
  unfold parsePlan at h
  split at h
  · rename_i g1 g0 count fold revert f1 f0 action rest
    split at h
    · rename_i hcount
      cases h
      refine ⟨_, rfl, ?_⟩
      have hmembers : memberBytes (memberPairs rest) = rest := memberBytes_memberPairs hcount
      have hlength : (memberPairs rest).length = count.toNat := by
        have := memberBytes_length (memberPairs rest)
        rw [hmembers] at this
        omega
      show Half.bytes (half g1 g0) ++ [byte (memberPairs rest).length, fold, revert] ++ Half.bytes (half f1 f0)
        ++ [action] ++ memberBytes (memberPairs rest) = _
      rw [hmembers, hlength, byte_of_toNat, Half.bytes_half, Half.bytes_half]
      rfl
    · cases h
  · cases h

/-! ### Every layout (R179) -/

/-- R163: a command's layout parses to it. -/
theorem parseCommand_payload {c : Command} (h : c.wf = true) :
    parseCommand c.typeCode c.payload = .command c := by
  cases c with
  | writePlan f =>
    have hcount : f.members.length ≤ 252 := of_decide_eq_true h
    exact parsePlan_payload (by omega)
  | rebalance t =>
    show parseSelector (half (t.selector.extractLsb' 8 8) (t.selector.extractLsb' 0 8)) = _
    rw [half_of_bytes, parseSelector_selector]
  | setTime w =>
    show Parsed.command (.setTime (word _ _ _ _)) = _
    rw [word_of_bytes]
  | setUplink f =>
    show Parsed.command (.setUplink { f with
      lossQualify := half _ _, lightQualify := half _ _, holdOff := half _ _, waitToRestore := half _ _ }) = _
    rw [half_of_bytes, half_of_bytes, half_of_bytes, half_of_bytes]
  | clearPlan g =>
    show Parsed.command (.clearPlan (half _ _)) = _
    rw [half_of_bytes]
  | readPlan g b =>
    show Parsed.command (.readPlan (half _ _) b) = _
    rw [half_of_bytes]
  | readGroup g =>
    show Parsed.command (.readGroup (half _ _)) = _
    rw [half_of_bytes]
  | setAlert t l u =>
    show Parsed.command (.setAlert t (half _ _) u) = _
    rw [half_of_bytes]
  | _ => rfl

/-- Section 10.1: a payload fits a frame exactly if a sender can give the command. -/
theorem wf_iff_payload_length (c : Command) : c.wf = true ↔ c.payload.length ≤ 512 := by
  cases c with
  | writePlan f =>
    have hlength : (Command.writePlan f).payload.length = 8 + 2 * f.members.length := by
      rw [writePlan_payload]
      simp only [List.length_cons, memberBytes_length]
      omega
    rw [hlength]
    show decide (f.members.length ≤ 252) = true ↔ _
    rw [decide_eq_true_eq]
    omega
  | _ => exact iff_of_true rfl (Nat.le_of_ble_eq_true rfl)

/-- R163: what parses to a command is its layout. -/
theorem layout_of_parseCommand {type : Byte} {payload : List Byte} {c : Command}
    (h : parseCommand type payload = .command c) : c.typeCode = type ∧ c.payload = payload := by
  unfold parseCommand at h
  split at h
  all_goals rename_i hcode
  case h_22 => cases h -- an unknown type
  case h_10 => -- WRITE-PLAN
    obtain ⟨f, rfl, hpayload⟩ := payload_of_parsePlan h
    exact ⟨BitVec.eq_of_toNat_eq hcode.symm, hpayload⟩
  case h_16 => -- REBALANCE
    split at h
    · obtain ⟨t, rfl, hselector⟩ := selector_of_parseSelector h
      refine ⟨BitVec.eq_of_toNat_eq hcode.symm, ?_⟩
      show Half.bytes t.selector = _
      rw [hselector, Half.bytes_half]
    · cases h
  all_goals
    split at h
    · cases h
      refine ⟨BitVec.eq_of_toNat_eq hcode.symm, ?_⟩
      simp only [Command.payload, Half.bytes_half, Word.bytes_word, List.cons_append, List.nil_append]
    · cases h

/-! ### A whole frame (R161 to R163) -/

theorem State.keep_keep (rx rx' : RxState) (frame frame' : List Byte) (s : State) :
    (s.keep rx frame).keep rx' frame' = s.keep rx' frame' := rfl

theorem State.hunt_keep (rx : RxState) (frame : List Byte) (s : State) : (s.keep rx frame).hunt = s.hunt := rfl

/-- A receiver that hunts with no frame in progress is as a frame's end leaves it. -/
theorem State.hunt_eq {s : State} (hrx : s.control.rx = .hunting) (hf : s.control.frame = []) : s.hunt = s := by
  unfold State.hunt
  rw [← hrx, ← hf]

/-- R161: the body's last byte ends BODY. -/
theorem takeBytes_body {h l : Byte} {kept bs : List Byte} (s : State) (hbs : bs ≠ [])
    (hcount : kept.length + bs.length = h.toNat * 256 + l.toNat) :
    takeBytes bs (s.keep .body (h :: l :: kept)) = s.keep .check (h :: l :: (kept ++ bs)) := by
  induction bs generalizing kept with
  | nil => exact absurd rfl hbs
  | cons b bs ih =>
    show takeBytes bs (takeByte b (s.keep .body (h :: l :: kept))) = _
    rw [takeByte_body b (s := s.keep .body (h :: l :: kept)) rfl rfl, State.keep_keep]
    rw [List.length_cons] at hcount
    by_cases hlast : bs = []
    · subst hlast
      rw [if_neg (by rw [← hcount]; exact Nat.lt_irrefl _)]
      rfl
    · have hmore := List.length_pos_iff.2 hlast
      have hkept : (kept ++ [b]).length + bs.length = h.toNat * 256 + l.toNat := by
        rw [List.length_append, List.length_singleton]
        omega
      rw [if_pos (by omega), ih hlast hkept, List.append_assoc]
      rfl

/-- R161, R177: the two length bytes of a body that a frame can carry. -/
theorem length_bytes {n : Nat} (h : n < 65536) : (byte (n / 256)).toNat * 256 + (byte n).toNat = n := by
  have hlow : (byte n).toNat = n % 256 := BitVec.toNat_ofNat n 8
  rw [byte_toNat (by omega), hlow]
  omega

/-- R161: a frame from its start byte is judged at its second check byte. -/
theorem takeBytes_frame {s : State} (hrx : s.control.rx = .hunting) {h l : Byte} {body : List Byte} (hi lo : Byte)
    (hcount : body.length = h.toNat * 256 + l.toNat) (hmin : 2 ≤ body.length) (hmax : body.length ≤ 514) :
    takeBytes (startByte :: h :: l :: (body ++ [hi, lo])) s =
      judgeFrame (h :: l :: (body ++ [hi, lo])) (s.keep .check (h :: l :: (body ++ [hi]))) := by
  have hstart : takeByte startByte s = s.keep .length [] := by rw [takeByte_hunting _ hrx, if_pos rfl]
  have hhigh : takeByte h (s.keep .length []) = s.keep .length [h] := takeByte_lengthHigh h rfl rfl
  have hlow : takeByte l (s.keep .length [h]) = s.keep .body [h, l] := by
    rw [takeByte_lengthLow l (s := s.keep .length [h]) rfl rfl, if_pos (by omega), State.keep_keep]
  have hbody : takeBytes body (s.keep .body [h, l]) = s.keep .check (h :: l :: body) :=
    takeBytes_body s (kept := []) (List.ne_nil_of_length_pos (by omega)) (by rw [List.length_nil]; omega)
  have hfirst : takeByte hi (s.keep .check (h :: l :: body)) = s.keep .check (h :: l :: (body ++ [hi])) := by
    rw [takeByte_check hi (s := s.keep .check (h :: l :: body)) rfl rfl, if_pos (by omega), State.keep_keep]
  have hsecond : takeByte lo (s.keep .check (h :: l :: (body ++ [hi]))) =
      judgeFrame (h :: l :: (body ++ [hi, lo])) (s.keep .check (h :: l :: (body ++ [hi]))) := by
    rw [takeByte_check lo (s := s.keep .check (h :: l :: (body ++ [hi]))) rfl rfl,
      if_neg (by rw [List.length_append, List.length_singleton]; omega), List.append_assoc]
    rfl
  calc takeBytes (startByte :: h :: l :: (body ++ [hi, lo])) s
      = takeBytes (body ++ [hi, lo]) (takeByte l (takeByte h (takeByte startByte s))) := rfl
    _ = takeBytes (body ++ [hi, lo]) (s.keep .body [h, l]) := by rw [hstart, hhigh, hlow]
    _ = takeByte lo (takeByte hi (takeBytes body (s.keep .body [h, l]))) := List.foldl_append
    _ = _ := by rw [hbody, hfirst, hsecond]

/-- R163: a frame that a hunting receiver takes with a sound check is received whole. -/
theorem takeBytes_sound {s : State} (hrx : s.control.rx = .hunting) (type tag : Byte) {payload : List Byte}
    (hfits : payload.length ≤ 512) :
    takeBytes (frameBytes (type :: tag :: payload) (checkOf (lengthAndBody (type :: tag :: payload)))) s =
      receiveWhole type tag payload s.hunt := by
  obtain ⟨body, hbody⟩ : ∃ body, body = type :: tag :: payload := ⟨_, rfl⟩
  obtain ⟨check, hcheck⟩ : ∃ check, check = checkOf (lengthAndBody body) := ⟨_, rfl⟩
  have hlength : body.length = payload.length + 2 := by rw [hbody]; rfl
  have hcount := length_bytes (n := body.length) (by omega)
  have hsum : byteSum (byte (body.length / 256) :: byte body.length :: body)
      + half (check.extractLsb' 8 8) (check.extractLsb' 0 8) = 0#16 := by
    rw [half_of_bytes, hcheck]
    exact add_neg_cancel (byteSum (lengthAndBody body))
  have hwhole : frameBytes body check = startByte :: byte (body.length / 256) :: byte body.length ::
      (body ++ [check.extractLsb' 8 8, check.extractLsb' 0 8]) := rfl
  rw [← hbody, ← hcheck, hwhole, takeBytes_frame hrx _ _ hcount.symm (by omega) (by omega),
    judgeFrame_sound (by rw [toNat_half]; exact hcount.symm) _ hbody hsum, State.hunt_keep]

/-- Settles O49: the layouts both ways, and the frame of a layout. -/
theorem commandsSurviveTheWire : Obligations.CommandsSurviveTheWire := by
  refine ⟨fun c hwf => ⟨parseCommand_payload hwf, (wf_iff_payload_length c).1 hwf⟩,
    fun type payload c hfits hparse => ?_, fun c tag s hwf hheld hrx hf => ?_⟩
  · obtain ⟨htype, hpayload⟩ := layout_of_parseCommand hparse
    exact ⟨(wf_iff_payload_length c).2 (hpayload ▸ hfits), htype, hpayload⟩
  · have hframe : exec (.frameReceived (c.frameBody tag) (checkOf (lengthAndBody (c.frameBody tag)))) s =
        .next (receiveWhole c.typeCode tag c.payload s.hunt) := by
      rw [← takeBytes_sound hrx c.typeCode tag ((wf_iff_payload_length c).1 hwf)]
      exact whenRunning_of_released hheld _
    have hcommand : receiveWhole c.typeCode tag c.payload s = receiveCommand tag c s := by
      unfold receiveWhole
      rw [parseCommand_payload hwf]
    rw [hframe, State.hunt_eq hrx hf, hcommand, exec_rowOf_of_released hheld]

end Sys2Proof.Machine
end

section
/-! The step at a waiting command (O1). -/

namespace Sys2Proof.Machine

/-- The front command leaves the queue before it is carried out, so `exec` sees the rest alone. -/
theorem step_of_pending_cons {s : State} {c : Instr} {rest : List Instr} (hfront : s.pending = c :: rest) :
    step s = exec c { s with pending := rest } := by
  unfold step
  rw [hfront]

/-- Settles O1: the queue's rest, written over the queue with `c` at its front, is the queue's rest written over `s`. -/
theorem stepRunsTheFrontCommand : Obligations.StepRunsTheFrontCommand := by
  intro c rest s
  have hfront : ({ s with pending := c :: rest } : State).pending = c :: rest := rfl
  exact step_of_pending_cons hfront

end Sys2Proof.Machine
end
